-- ==== Sys2Proof/Word.lean ====
section
/-! DEFINITION. The widths the HS4816 manual counts in: bytes, 16-bit fields and masks, 32-bit ticks. -/

namespace Sys2Proof

/-- One byte of a frame, a page or a payload. -/
abbrev Byte := BitVec 8

/-- A two-byte field: a channel mask, a tag, a handle, a sequence number or a 16-bit counter. -/
abbrev Half := BitVec 16

/-- A 32-bit tick value, stamp or total (R31; arithmetic is modulo 2^32, manual "Conventions"). -/
abbrev Tick := BitVec 32

end Sys2Proof
end

