-- ==== Sys2Proof/Config.lean ====
section
/-! DEFINITION. What an HS4816 leaves open: the free values (no body, so nothing can be proved of them), and the
fixed capacities of the part. -/

namespace Sys2Proof

/-- Free value (log 11): how many fill bytes pass as 00h before the marker of the n-th response; R3 bounds the marker
to the 1st..40th fill byte, which the user of this constant enforces by a remainder. -/
opaque Config.markerDelay : Nat → Nat

/-- Free value (log 9): for the n-th interrupted write and the byte at an index, which of old, new and FFh the torn
byte holds (R185), taken by its remainder modulo 3. -/
opaque Config.tearChoice : Nat → Nat → Nat

/-- Free value (log 10): for the n-th write that failed verification, an index whose byte differs from the data (R182). -/
opaque Config.flawIndex : Nat → Nat

/-- Free value (log 10): by how much the byte at `flawIndex` differs; the user keeps it non-zero (R182). -/
opaque Config.flawOffset : Nat → Nat

/-- Free value (log 10): the other bytes of a page that failed verification (R182). -/
opaque Config.flawByte : Nat → Nat → Byte

/-- Free value (log 26): how many rising edges of SCK of the transaction in progress come before the n-th free value's reset (R23),
which the user of this constant bounds by a remainder. -/
opaque Config.resetMoment : Nat → Nat

/-- The horizon of R32: 2^30 ticks. -/
def Config.horizon : Nat := 2 ^ 30

/-- The saturation value of the frozen-duration counter (R104): 2^30 ticks. -/
def Config.frozenMax : Nat := 2 ^ 30

/-- The lifetime of a confirmation window in warden milliseconds (R19). -/
def Config.windowLife : Nat := 10

/-- The length of the nHRST pulse in warden-millisecond events (R150). -/
def Config.hrstLength : Nat := 20

/-- The capacity of the edge log (R111). -/
def Config.logSize : Nat := 64

/-- The capacity of the urgent lane (R125). -/
def Config.urgentSize : Nat := 4

/-- The capacity of the routine lane (R125). -/
def Config.routineSize : Nat := 16

/-- The capacity of the journal queue (R189). -/
def Config.queueSize : Nat := 4

end Sys2Proof
end

