-- ==== Sys2Proof/Machine/Bytes.lean ====
section
/-! DEFINITION. Byte order, counters and the two check codes of the HS4816 (R7, R14, R186, manual "Conventions"). -/

namespace Sys2Proof.Machine

/-- A two-byte field, most significant byte first. -/
def be16 (x : Half) : List Byte := [x.extractLsb' 8 8, x.extractLsb' 0 8]

/-- A four-byte field, most significant byte first. -/
def be32 (x : Tick) : List Byte :=
  [x.extractLsb' 24 8, x.extractLsb' 16 8, x.extractLsb' 8 8, x.extractLsb' 0 8]

/-- A number that fits one byte. -/
def byteN (n : Nat) : Byte := BitVec.ofNat 8 n

/-- A number that fits two bytes. -/
def halfN (n : Nat) : Half := BitVec.ofNat 16 n

/-- A yes/no as 01h/00h. -/
def byteB (b : Bool) : Byte := if b then 1 else 0

/-- Eight yes/no values as one byte, the first of the list in the most significant bit. -/
def packBits (bits : List Bool) : Byte :=
  byteN (bits.foldl (fun n b => 2 * n + b.toNat) 0)

/-- The complete bytes in a run of bits, most significant bit first; the bits of an incomplete byte are discarded (R1). -/
def bytesOfBits : List Bool → List Byte
  | b7 :: b6 :: b5 :: b4 :: b3 :: b2 :: b1 :: b0 :: rest => packBits [b7, b6, b5, b4, b3, b2, b1, b0] :: bytesOfBits rest
  | _ => []

/-- The byte at an index (00h past the end, which no use meets: lengths are checked first). -/
def byteAt (l : List Byte) (i : Nat) : Byte := l.getD i 0

/-- The two-byte field at an index, most significant byte first. -/
def halfAt (l : List Byte) (i : Nat) : Half := byteAt l i ++ byteAt l (i + 1)

/-- The three-byte field at an index. -/
def triAt (l : List Byte) (i : Nat) : BitVec 24 := byteAt l i ++ byteAt l (i + 1) ++ byteAt l (i + 2)

/-- The four-byte field at an index. -/
def wordAt (l : List Byte) (i : Nat) : Tick :=
  byteAt l i ++ byteAt l (i + 1) ++ byteAt l (i + 2) ++ byteAt l (i + 3)

/-- A counter that stops at its largest value (manual "Counters"; R14, R26, R120, R131). -/
def satInc {w : Nat} (x : BitVec w) : BitVec w := if x = BitVec.allOnes w then x else x + 1

/-- A number reported in two bytes that stops at 65535 (R105, R109). -/
def satHalf (n : Nat) : Half := halfN (min n 65535)

/-- How many channels a mask names. -/
def maskCount (m : Half) : Nat := (List.finRange 16).countP fun i => m.getLsbD i.val

/-- One shift of the CRC-8 (R7 step 3). -/
def crc8Shift (x : Byte) : Byte := if x.msb then (x <<< 1) ^^^ 0x07 else x <<< 1

/-- One byte of the CRC-8 (R7 steps 2 and 3). -/
def crc8Byte (acc b : Byte) : Byte := Nat.repeat crc8Shift 8 (acc ^^^ b)

/-- The CRC-8 of R7 over a run of bytes, from 00h. -/
def crc8 (l : List Byte) : Byte := l.foldl crc8Byte 0

/-- One shift of the CRC-16 (R186 step 3). -/
def crc16Shift (x : Half) : Half := if x.msb then (x <<< 1) ^^^ 0x1021 else x <<< 1

/-- One byte of the CRC-16 (R186 steps 2 and 3). -/
def crc16Byte (acc : Half) (b : Byte) : Half :=
  Nat.repeat crc16Shift 8 (acc ^^^ (b ++ (0 : Byte)))

/-- The CRC-16 of R186 over a run of bytes, from FFFFh. -/
def crc16 (l : List Byte) : Half := l.foldl crc16Byte 0xFFFF

end Sys2Proof.Machine
end

