-- ==== Sys2Proof/Syntax.lean ====
section
/-! DEFINITION. The commands and events of the HS4816: one constructor per row of spec/opcode_table.json, with what the
outside brings to that event. -/

namespace Sys2Proof

/-- The levels of the input pins that an event meets (Table 11-6); `true` is the high level. `ins` holds IN0..IN7, bit n
for line n. -/
structure InPins where
  nCs    : Bool
  nFsafe : Bool
  ins    : BitVec 8
  deriving DecidableEq, Repr

/-- A complete, intact command frame (R5) as the addressed block meets it: its sequence byte, its parameter bytes, how many
rising edges of SCK follow the frame in its transaction (R2, R3: its fill), whether the falling edge of nCS that began the
transaction came after the port became ready (R22, log 27), and the input pins when the command completes. `pins.nCs` high says
that nCS rose before completion (R2). -/
structure Frame where
  seq    : Byte
  params : List Byte
  fill   : Nat
  fresh  : Bool
  pins   : InPins
  deriving DecidableEq, Repr

/-- A rising edge of SCK (R1): the level of nCS, and that of MOSI, which the part samples. -/
structure SpiClock where
  nCs  : Bool
  mosi : Bool
  deriving DecidableEq, Repr

/-- One transaction as the port's pins see it (R1, log 22): the rising edges of SCK about it, in order, whether the falling edge
of nCS that began it came after the port became ready (R22, log 27), and the input pins at its evaluation. -/
structure Transaction where
  clocks : List SpiClock
  fresh  : Bool
  pins   : InPins
  deriving DecidableEq, Repr

/-- What a warden-millisecond event meets (R38): whether XIN had a rising edge in the millisecond that ended (R27),
whether a store write or erase that completes in this event takes (R182, log 10), and the input pins. -/
structure MsInputs where
  xinEdge : Bool
  takes   : Bool
  pins    : InPins
  deriving DecidableEq, Repr

/-- What the power-up sequence meets (R195, R199, R200, log 13): how many of its nine steps are done when the next event is
served, the warden-millisecond events just before step 7 and just before step 8, whether XIN had an edge meanwhile, and the
input pins. -/
structure PowerUp where
  steps           : Fin 10
  msBeforeEntry   : Nat
  msBeforeRecords : Nat
  xinEdge         : Bool
  pins            : InPins
  deriving DecidableEq, Repr

/-- One constructor per row of spec/opcode_table.json, in the table's order. -/
inductive Instr where
  /-- SYS_STATUS, R203. -/
  | sysStatus (f : Frame)
  /-- SYS_IDENTIFY, R202. -/
  | sysIdentify (f : Frame)
  /-- SYS_CAUSE, R197. -/
  | sysCause (f : Frame)
  /-- SYS_RESET_REQ, R198. -/
  | sysResetReq (f : Frame)
  /-- SYS_RESET_CONFIRM, R198. -/
  | sysResetConfirm (f : Frame)
  /-- SYS_UNSTICK, R132. -/
  | sysUnstick (f : Frame)
  /-- TIME_READ, R31. -/
  | timeRead (f : Frame)
  /-- TIME_RUN, R33. -/
  | timeRun (f : Frame)
  /-- TIME_STOP, R34. -/
  | timeStop (f : Frame)
  /-- TIME_SET, R35. -/
  | timeSet (f : Frame)
  /-- TIME_RATE, R30. -/
  | timeRate (f : Frame)
  /-- TIME_RESTORE, R29. -/
  | timeRestore (f : Frame)
  /-- CUE_ADD, R73. -/
  | cueAdd (f : Frame)
  /-- CUE_CANCEL, R76. -/
  | cueCancel (f : Frame)
  /-- CUE_AMEND, R79. -/
  | cueAmend (f : Frame)
  /-- CUE_QUERY, R80. -/
  | cueQuery (f : Frame)
  /-- CUE_LIST, R81. -/
  | cueList (f : Frame)
  /-- CUE_HOOKS, R82. -/
  | cueHooks (f : Frame)
  /-- CUE_PURGE, R78. -/
  | cuePurge (f : Frame)
  /-- CUE_FREEZE, R104. -/
  | cueFreeze (f : Frame)
  /-- CUE_THAW, R105. -/
  | cueThaw (f : Frame)
  /-- CUE_STATUS, R83. -/
  | cueStatus (f : Frame)
  /-- CHAN_SETUP, R50. -/
  | chanSetup (f : Frame)
  /-- CHAN_FORCE, R52. -/
  | chanForce (f : Frame)
  /-- CHAN_SEAL, R51. -/
  | chanSeal (f : Frame)
  /-- CHAN_READ, R54. -/
  | chanRead (f : Frame)
  /-- EDGE_SETUP, R115. -/
  | edgeSetup (f : Frame)
  /-- EDGE_POLICY, R121. -/
  | edgePolicy (f : Frame)
  /-- EDGE_READ, R122. -/
  | edgeRead (f : Frame)
  /-- EDGE_FLUSH, R123. -/
  | edgeFlush (f : Frame)
  /-- EDGE_STATUS, R124. -/
  | edgeStatus (f : Frame)
  /-- NOTE_FIRST, R135. -/
  | noteFirst (f : Frame)
  /-- NOTE_NEXT, R136. -/
  | noteNext (f : Frame)
  /-- NOTE_ENABLE, R130. -/
  | noteEnable (f : Frame)
  /-- NOTE_STATUS, R138. -/
  | noteStatus (f : Frame)
  /-- WARD_SETUP, R142. -/
  | wardSetup (f : Frame)
  /-- WARD_ARM, R145. -/
  | wardArm (f : Frame)
  /-- WARD_BEAT, R146. -/
  | wardBeat (f : Frame)
  /-- WARD_DISARM_REQ, R151. -/
  | wardDisarmReq (f : Frame)
  /-- WARD_DISARM_CONFIRM, R152. -/
  | wardDisarmConfirm (f : Frame)
  /-- WARD_STATUS, R157. -/
  | wardStatus (f : Frame)
  /-- STAND_ENTER, R164. -/
  | standEnter (f : Frame)
  /-- STAND_RETURN_REQ, R171. -/
  | standReturnReq (f : Frame)
  /-- STAND_RETURN_CONFIRM, R173. -/
  | standReturnConfirm (f : Frame)
  /-- STAND_STATUS, R174. -/
  | standStatus (f : Frame)
  /-- STORE_READ, R180. -/
  | storeRead (f : Frame)
  /-- STORE_LOAD, R179. -/
  | storeLoad (f : Frame)
  /-- STORE_CLEAR, R179. -/
  | storeClear (f : Frame)
  /-- STORE_OPEN, R181. -/
  | storeOpen (f : Frame)
  /-- STORE_PROGRAM, R181. -/
  | storeProgram (f : Frame)
  /-- STORE_LOCK, R183. -/
  | storeLock (f : Frame)
  /-- STORE_WIPE, R184. -/
  | storeWipe (f : Frame)
  /-- STORE_STATUS, R194. -/
  | storeStatus (f : Frame)
  /-- STORE_JOURNAL, R193. -/
  | storeJournal (f : Frame)
  /-- FRAME_ABORTED, R8. -/
  | frameAborted (t : Transaction)
  /-- REFUSED_TRANSACTION, R4. -/
  | refusedTransaction (t : Transaction)
  /-- LENGTH_OUT_OF_RANGE, R9. -/
  | lengthOutOfRange (t : Transaction)
  /-- CHECK_FAILED, R10. -/
  | checkFailed (t : Transaction)
  /-- REPLAY, R11. -/
  | replay (t : Transaction)
  /-- UNKNOWN_COMMAND_CODE, R12. -/
  | unknownCommandCode (t : Transaction)
  /-- CONFIRM_WINDOW_EXPIRY, R19. -/
  | confirmWindowExpiry
  /-- TICK, R36. -/
  | tick (pins : InPins)
  /-- WARDEN_MS_EVENT, R38. -/
  | wardenMsEvent (ms : MsInputs)
  /-- CLOCK_SUBST, R28. -/
  | clockSubst
  /-- QUALIFIED_EDGE, R114. -/
  | qualifiedEdge (line : Fin 8)
  /-- TRAILING_EDGE, R86. -/
  | trailingEdge (slot : Fin 48)
  /-- LEADING_ACTION, R90. -/
  | leadingAction (slot : Fin 48)
  /-- CUE_OVERDUE, R85. -/
  | cueOverdue (slot : Fin 48)
  /-- WARDEN_TIMEOUT, R144. -/
  | wardenTimeout
  /-- CLOSED_PHASE_END, R144. -/
  | closedPhaseEnd
  /-- NHRST_PULSE_END, R150. -/
  | nhrstPulseEnd
  /-- FSAFE_ASSERT, R154. -/
  | fsafeAssert
  /-- FSAFE_CLEAR, R154. -/
  | fsafeClear
  /-- STANDIN_CYCLE_END, R169. -/
  | standinCycleEnd
  /-- STORE_PROGRAM_COMPLETE, R182. -/
  | storeProgramComplete (takes : Bool)
  /-- WIPE_STEP_COMPLETE, R184. -/
  | wipeStepComplete (takes : Bool)
  /-- WIPE_COMPLETE, R184. -/
  | wipeComplete
  /-- JOURNAL_APPEND_START, R178. -/
  | journalAppendStart
  /-- JOURNAL_APPEND_COMPLETE, R191. -/
  | journalAppendComplete (takes : Bool)
  /-- POWER_ON_RESET, R195. -/
  | powerOnReset
  /-- BROWNOUT_RESET, R195. -/
  | brownoutReset
  /-- PIN_RESET, R195. -/
  | pinReset
  /-- SOFT_RESET, R198. -/
  | softReset
  /-- POWER_UP_SEQUENCE, R199. -/
  | powerUpSequence (p : PowerUp)
  /-- PORT_READY, R22. -/
  | portReady
  deriving DecidableEq, Repr

end Sys2Proof
end

