-- ==== Sys2Proof/Machine/FrameFormat.lean ====
section
/-! DEFINITION. The command frame (R2, R5) and what the bytes of one transaction are before the replay cache is looked
at (R1, R2, R8, R9, R10). -/

namespace Sys2Proof.Machine

/-- R1: the bits that a transaction carries on MOSI: from the falling edge of nCS to its rising edge, one for each rising edge of
SCK. What SCK and MOSI do while nCS is high is ignored. -/
def sampled (t : Transaction) : List Bool :=
  ((t.clocks.dropWhile SpiClock.nCs).takeWhile fun c => !c.nCs).map SpiClock.mosi

/-- R1: the complete bytes of a transaction. -/
def received (t : Transaction) : List Byte := bytesOfBits (sampled t)

/-- R2: the frame length that the length byte selects; a byte outside 4..28 is clipped. -/
def frameLength (b : Byte) : Nat :=
  if b.toNat < 4 then 4 else if 28 < b.toNat then 28 else b.toNat

/-- What the port finds in the bytes of a transaction, tested in the order of section 1.3. -/
inductive FrameClass where
  /-- No complete byte arrived (R1). -/
  | empty
  /-- nCS rose before the frame length was reached (R8). -/
  | aborted
  /-- The length byte lies outside 4..28 (R9). -/
  | lengthOut (seq : Byte)
  /-- The check byte does not match (R10). -/
  | checkFailed (seq : Byte)
  /-- Complete and intact: it is a replay or is executed (R11, R12). -/
  | intact (seq code : Byte) (params : List Byte)
  deriving DecidableEq, Repr

/-- R5: whether the last byte of a complete frame is the CRC-8 of the bytes before it. -/
def checkOk (frame : List Byte) : Bool := crc8 frame.dropLast == frame.getLastD 0

/-- The parameter bytes of a complete frame (Table 1-1). -/
def frameParams (frame : List Byte) : List Byte := (frame.drop 3).dropLast

/-- R2, R8, R9, R10: classify the bytes of one transaction; what follows the frame is fill (R2). -/
def classify : List Byte → FrameClass
  | [] => .empty
  | b :: rest =>
    let bytes := b :: rest
    if bytes.length < frameLength b then .aborted
    else
      let frame := bytes.take (frameLength b)
      let seq := byteAt frame 1
      if b.toNat < 4 ∨ 28 < b.toNat then .lengthOut seq
      else if checkOk frame then .intact seq (byteAt frame 2) (frameParams frame)
      else .checkFailed seq

/-- R5: the frame of a command, its check byte by R7. -/
def encodeFrame (seq code : Byte) (params : List Byte) : List Byte :=
  let body := byteN (params.length + 4) :: seq :: code :: params
  body ++ [crc8 body]

end Sys2Proof.Machine
end

