-- ==== Sys2Proof/WellFormed.lean ====
section
/-! DEFINITION. Which terms of Instr stand for something that can reach an HS4816. -/

namespace Sys2Proof

open Machine

/-- R5: a frame holds 0..24 parameter bytes. -/
def Frame.wf (f : Frame) : Bool := f.params.length ≤ 24

/-- The bytes of a transaction are what its row says: the class that R8..R12 give them. -/
def Transaction.fits (t : Transaction) (p : FrameClass → Bool) : Bool := p (classify (received t))

/-- R24: the 54 command codes of Table 1-5. -/
def knownCodes : List Byte :=
  [0x00, 0x01, 0x02, 0x03, 0x04, 0x05,
   0x10, 0x11, 0x12, 0x13, 0x14, 0x15,
   0x20, 0x21, 0x22, 0x23, 0x24, 0x25, 0x26, 0x27, 0x28, 0x29,
   0x30, 0x31, 0x32, 0x33,
   0x40, 0x41, 0x42, 0x43, 0x44,
   0x50, 0x51, 0x52, 0x53,
   0x60, 0x61, 0x62, 0x63, 0x64, 0x65,
   0x70, 0x71, 0x72, 0x73,
   0x80, 0x81, 0x82, 0x83, 0x84, 0x85, 0x86, 0x87, 0x88]

/-- R22: the power-up sequence completes within 3 warden milliseconds. -/
def PowerUp.wf (p : PowerUp) : Bool := p.msBeforeEntry + p.msBeforeRecords ≤ 3

/-- A command or event as it can reach the part. Command frames keep R5's length; a transaction row holds bytes of the
class it names; the power-up sequence keeps R22's bound; every other operand is valid at every value of its type. -/
def Instr.wf : Instr → Bool
  | .sysStatus f => f.wf
  | .sysIdentify f => f.wf
  | .sysCause f => f.wf
  | .sysResetReq f => f.wf
  | .sysResetConfirm f => f.wf
  | .sysUnstick f => f.wf
  | .timeRead f => f.wf
  | .timeRun f => f.wf
  | .timeStop f => f.wf
  | .timeSet f => f.wf
  | .timeRate f => f.wf
  | .timeRestore f => f.wf
  | .cueAdd f => f.wf
  | .cueCancel f => f.wf
  | .cueAmend f => f.wf
  | .cueQuery f => f.wf
  | .cueList f => f.wf
  | .cueHooks f => f.wf
  | .cuePurge f => f.wf
  | .cueFreeze f => f.wf
  | .cueThaw f => f.wf
  | .cueStatus f => f.wf
  | .chanSetup f => f.wf
  | .chanForce f => f.wf
  | .chanSeal f => f.wf
  | .chanRead f => f.wf
  | .edgeSetup f => f.wf
  | .edgePolicy f => f.wf
  | .edgeRead f => f.wf
  | .edgeFlush f => f.wf
  | .edgeStatus f => f.wf
  | .noteFirst f => f.wf
  | .noteNext f => f.wf
  | .noteEnable f => f.wf
  | .noteStatus f => f.wf
  | .wardSetup f => f.wf
  | .wardArm f => f.wf
  | .wardBeat f => f.wf
  | .wardDisarmReq f => f.wf
  | .wardDisarmConfirm f => f.wf
  | .wardStatus f => f.wf
  | .standEnter f => f.wf
  | .standReturnReq f => f.wf
  | .standReturnConfirm f => f.wf
  | .standStatus f => f.wf
  | .storeRead f => f.wf
  | .storeLoad f => f.wf
  | .storeClear f => f.wf
  | .storeOpen f => f.wf
  | .storeProgram f => f.wf
  | .storeLock f => f.wf
  | .storeWipe f => f.wf
  | .storeStatus f => f.wf
  | .storeJournal f => f.wf
  | .frameAborted t => t.fits (fun c => c == .aborted)
  | .refusedTransaction t => t.fits (fun c => c != .empty)
  | .lengthOutOfRange t => t.fits (fun c => match c with | .lengthOut _ => true | _ => false)
  | .checkFailed t => t.fits (fun c => match c with | .checkFailed _ => true | _ => false)
  | .replay t => t.fits (fun c => match c with | .intact _ _ _ => true | _ => false)
  | .unknownCommandCode t => t.fits (fun c => match c with | .intact _ code _ => !knownCodes.contains code | _ => false)
  | .confirmWindowExpiry => true
  | .tick _ => true
  | .wardenMsEvent _ => true
  | .clockSubst => true
  | .qualifiedEdge _ => true
  | .trailingEdge _ => true
  | .leadingAction _ => true
  | .cueOverdue _ => true
  | .wardenTimeout => true
  | .closedPhaseEnd => true
  | .nhrstPulseEnd => true
  | .fsafeAssert => true
  | .fsafeClear => true
  | .standinCycleEnd => true
  | .storeProgramComplete _ => true
  | .wipeStepComplete _ => true
  | .wipeComplete => true
  | .journalAppendStart => true
  | .journalAppendComplete _ => true
  | .powerOnReset => true
  | .brownoutReset => true
  | .pinReset => true
  | .softReset => true
  | .powerUpSequence p => p.wf
  | .portReady => true

end Sys2Proof
end

