-- ==== Sys2Proof/Decode.lean ====
section
/-! DEFINITION. The command that a word of opcode_table.json spells. The table gives no row any bits (98_reader.md: no row
with fixed bits or fields), so no word spells a command; a command frame's own decoding is `Machine.classify` and
`Machine.commandOf`. -/

namespace Sys2Proof

/-- The command of a table word: the table gives no bits, so there is none. -/
def decodeTableWord (_nbits _w : Nat) : Option Instr := none

end Sys2Proof
end

