-- ==== Sys2Proof/Machine/State.lean ====
section
/-! DEFINITION. Everything the manual gives the HS4816 to remember, as plain data, and its value at reset (R201). The manual's
word for each field stands in its comment; INVENTORY.md lists the widths and the reset values. -/

namespace Sys2Proof.Machine

/-! ## Names -/

/-- The status codes of Table 1-3 (R15). -/
inductive Status where
  | ok | check | format | param | state | locked | busy | stale | full | late | horizon | sequence | beat
  deriving DecidableEq, Repr

/-- The confirmation window kinds of Table 1-5a. -/
inductive WindowKind where
  | store | disarm | goBack | reset
  deriving DecidableEq, Repr

/-- A clock source of the timebase (R25). -/
inductive Source where
  | internal | external
  deriving DecidableEq, Repr

/-- A commanded level (R44). -/
inductive Level where
  | low | high | flt
  deriving DecidableEq, Repr

/-- A level kind that a write requests (R44). -/
inductive LevelKind where
  | low | high | flt | toggle
  deriving DecidableEq, Repr

/-- The drive type of a channel (R42). -/
inductive Drive where
  | pushPull | openDrain
  deriving DecidableEq, Repr

/-- What an OUT pin presents (R45). -/
inductive PinLevel where
  | low | high | hiZ
  deriving DecidableEq, Repr

/-- The edge that arms a hooked cue (Table 4-1). -/
inductive HookEdge where
  | rising | falling | either
  deriving DecidableEq, Repr

/-- The trigger of a cue (Table 4-1): a due tick, or a line, an edge direction and a delay. -/
inductive Trigger where
  | atTime (due : Tick)
  | hook (line : Fin 8) (edge : HookEdge) (delay : Half)
  deriving DecidableEq, Repr

/-- How a late due tick is handled (Table 4-1). -/
inductive LatePolicy where
  | fire | skip
  deriving DecidableEq, Repr

/-- The action of a cue (Table 4-1). -/
inductive Action where
  | driveHigh | driveLow | flt | toggle | pulseHigh | pulseLow | notify
  deriving DecidableEq, Repr

/-- What a failed guard does (R92, R93). -/
inductive GuardPolicy where
  | skip | abandon
  deriving DecidableEq, Repr

/-- The guard of a cue: a line, the filtered level it must hold (`high` for HIGH), and the policy (R66). -/
structure Guard where
  line   : Fin 8
  high   : Bool
  policy : GuardPolicy
  deriving DecidableEq, Repr

/-- The state of a slot that holds a cue, with the series state that only that slot state has (Tables 4-2 and 4-4):
ARMED with its next due tick, its scheduled tick and whether it is overdue (R68); IN_PULSE with its trailing tick, its
scheduled tick, its pending trailing mask and whether it is ending (R77); HOOKED. -/
inductive Wait where
  | armed (due sched : Tick) (overdue : Bool)
  | inPulse (trail sched : Tick) (mask : Half) (ending : Bool)
  | hooked
  deriving DecidableEq, Repr

/-- A cue: the host's fields (Table 4-1) and the series state (Table 4-4). The remaining count of an unlimited series is
0 (R67). -/
structure Cue where
  trigger     : Trigger
  late        : LatePolicy
  notifyFire  : Bool
  notifyEnd   : Bool
  retrigger   : Bool
  rearm       : Bool
  mask        : Half
  action      : Action
  width       : BitVec 24
  occurrences : Half
  period      : Tick
  guard       : Option Guard
  priority    : Fin 4
  tag         : Half
  wait        : Wait
  remaining   : Half
  begun       : Bool
  fired       : Tick
  deriving DecidableEq, Repr

/-- A slot of the cue table (R56): its generation and nothing (FREE) or one cue. -/
structure Slot where
  gen : BitVec 10
  cue : Option Cue
  deriving DecidableEq, Repr

/-- The log selection of a line (Table 6-1). -/
inductive Selection where
  | none | rising | falling | either
  deriving DecidableEq, Repr

/-- A filtered input level (Table 6-1). -/
inductive FiltLevel where
  | low | high | unsettled
  deriving DecidableEq, Repr

/-- The full policy of the edge log (Table 6-2). -/
inductive FullPolicy where
  | keepOldest | keepNewest
  deriving DecidableEq, Repr

/-- The notice classes of Table 7-3. -/
inductive NoticeClass where
  | fired | skipped | missed | cut | seriesEnd | conflict | edgesReady | edgesLost | storeDone | journalLoss
  | routineOverflow
  | wardenFault | standinEnter | standinReturn | fsafeClear | clockSubst | storeFault | configBad | urgentOverflow
  deriving DecidableEq, Repr

/-- The warden's fault kinds (R148). -/
inductive FaultKind where
  | none | early | late | wrongCount
  deriving DecidableEq, Repr

/-- The stand-in states of R159. -/
inductive StandState where
  | host | run | ended | safe
  deriving DecidableEq, Repr

/-- The image banks (R165). -/
inductive Bank where
  | a | b
  deriving DecidableEq, Repr

/-- The mode of a stand-in program (R169). -/
inductive ProgramMode where
  | cycle | once
  deriving DecidableEq, Repr

/-- The kinds of journal record (R189). -/
inductive JournalKind where
  | reset | configBad | standinEnter | standinReturn | wardenFault | clockSubst | storeFault | wipe
  deriving DecidableEq, Repr

/-- How step 1 of the power-up sequence classed the configuration record (R203). -/
inductive ConfigOutcome where
  | erased | valid | bad
  deriving DecidableEq, Repr

/-- The kinds of reset (R195). -/
inductive ResetKind where
  | powerOn | brownout | pin | soft
  deriving DecidableEq, Repr

/-- Where the part stands between resets: a reset is in effect (R195); the power-up sequence is under way (R199, R200); the
port is ready (R22). `poweringUp` counts the steps that are done. -/
inductive Phase where
  | inReset
  | poweringUp (done : Fin 9)
  | ready
  deriving DecidableEq, Repr

/-! ## Blocks -/

/-- The entry of the replay cache (R13). -/
structure CacheEntry where
  seq     : Byte
  status  : Status
  payload : List Byte
  deriving DecidableEq, Repr

/-- An open confirmation window (R19). -/
structure Window where
  kind      : WindowKind
  remaining : Nat
  deriving DecidableEq, Repr

/-- The command port: replay cache (R13), confirmation window (R19), port-error counter (R14), the response frame last
formed (R6; empty when the last transaction had none), the level of MISO at each rising edge of SCK of the last
transaction (R1, R3, log 16), and `ignoring`: nCS was low when the port became ready, and the transaction then in progress,
which the port goes on ignoring, has not been seen to end (R22, log 27). -/
structure Port where
  cache    : Option CacheEntry
  window   : Option Window
  errors   : Half
  response : List Byte
  miso     : List Bool
  ignoring : Bool
  deriving DecidableEq, Repr

/-- The timebase (introduction of chapter 2): sources, substitution flag, reference history and XIN edge detector (R27),
the events counted since port ready, up to two (R28), rate code, divider, RUNNING, tick count, warden-millisecond
counter. -/
structure Timebase where
  configured : Source
  active     : Source
  subst      : Bool
  refNew     : Bool
  refOld     : Bool
  xinSeen    : Bool
  sinceReady : Nat
  rate       : Fin 4
  divider    : Nat
  running    : Bool
  tick       : Tick
  wardenMs   : Tick
  deriving DecidableEq, Repr

/-- One output channel (Table 3-1): drive type, safe level, stand-in-owned, sealed, commanded level. -/
structure Channel where
  drive : Drive
  safe  : Level
  owned : Bool
  shut  : Bool
  level : Level
  deriving DecidableEq, Repr

/-- The cue table (R56): slots, due list (R68), frozen indicator and frozen-duration counter (R104), six totals (R83). -/
structure CueTable where
  slots     : Vector Slot 48
  due       : List (Fin 48)
  frozen    : Bool
  frozenDur : Nat
  fired     : Tick
  missed    : Tick
  skipped   : Tick
  masked    : Tick
  cut       : Tick
  conflicts : Tick
  deriving DecidableEq, Repr

/-- One input line (Table 6-1); a run value of `none` is the empty run, `some true` is HIGH. -/
structure Line where
  length   : Nat
  select   : Selection
  filtered : FiltLevel
  runValue : Option Bool
  runCount : Nat
  deriving DecidableEq, Repr

/-- One edge record (Table 6-3). -/
structure EdgeRecord where
  seq    : Half
  line   : Fin 8
  rising : Bool
  gap    : Bool
  stamp  : Tick
  deriving DecidableEq, Repr

/-- The edge unit (Tables 6-1 and 6-2). -/
structure EdgeUnit where
  lines      : Vector Line 8
  log        : List EdgeRecord
  capture    : Half
  lost       : Half
  gapPending : Bool
  policy     : FullPolicy
  threshold  : Nat
  deriving DecidableEq, Repr

/-- One queued notice (Table 7-2). -/
structure Notice where
  seq    : Half
  cls    : NoticeClass
  handle : Half
  tag    : Half
  stamp  : Tick
  detail : Half
  deriving DecidableEq, Repr

/-- A notice that has been raised and has not yet entered a lane (R129). -/
structure Raised where
  cls    : NoticeClass
  handle : Half
  tag    : Half
  stamp  : Tick
  detail : Half
  deriving DecidableEq, Repr

/-- The latch and counter of a sticky class (R131). -/
structure Sticky where
  latch : Bool
  count : Half
  deriving DecidableEq, Repr

/-- The notice unit (Table 7-1). The enables are held in the mask form of R130. `raised` is the model's own: the notices
of the event in progress (log 14). -/
structure NoticeUnit where
  urgent         : List Notice
  routine        : List Notice
  seq            : Half
  enables        : Half
  conflict       : Sticky
  edgesLost      : Sticky
  journalLoss    : Sticky
  urgentDropped  : Half
  routineDropped : Half
  raised         : List Raised
  deriving DecidableEq, Repr

/-- The warden, nHRST timer and nFSAFE filter (Table 8-1). -/
structure Warden where
  tMin          : Half
  tMax          : Half
  threshold     : Nat
  respStandin   : Bool
  respHrst      : Bool
  latch         : Bool
  autoArm       : Bool
  fsafeEnable   : Bool
  armed         : Bool
  elapsed       : Half
  closedPhase   : Bool
  expected      : Byte
  strikes       : Nat
  lastFault     : FaultKind
  faults        : Tick
  beatSince     : Bool
  hrst          : Nat
  fsafeAsserted : Bool
  fsafeRun      : Nat
  fsafeDur      : Half
  deriving DecidableEq, Repr

/-- The stand-in cause set (R160). -/
structure Causes where
  warden  : Bool
  command : Bool
  fsafe   : Bool
  powerUp : Bool
  deriving DecidableEq, Repr

/-- One step of a stand-in program (R188). -/
structure ProgramStep where
  offset : Nat
  mask   : Half
  kind   : LevelKind
  deriving DecidableEq, Repr

/-- A stand-in image with its bank (R165, R188). -/
structure Image where
  bank   : Bank
  mode   : ProgramMode
  gen    : Half
  length : Nat
  steps  : List ProgramStep
  deriving DecidableEq, Repr

/-- The stand-in engine (Table 9-1). -/
structure StandIn where
  state       : StandState
  causes      : Causes
  standby     : Option Image
  validA      : Bool
  validB      : Bool
  evalPending : Bool
  active      : Option Image
  pos         : Nat
  masked      : Tick
  entryStamp  : Tick
  deriving DecidableEq, Repr

/-- An addressed memory: a byte address and its byte, in ONE canonical form (`Memory.wf`). An unlisted address reads FFh, as
an erased byte does (R176). -/
abbrev Memory := List Host.Cell

/-- The canonical form: addresses strictly rising, and no entry that reads as an unlisted address does. -/
abbrev Memory.wf (m : Memory) : Prop :=
  m.Pairwise (fun c d => c.1 < d.1) ∧ ∀ c ∈ m, c.2 ≠ 0xFF

/-- The store engine (R177). PROGRAMMING with origin HOST holds its page, its 64 data bytes and the remaining events;
with origin JOURNAL its slot and its sixteen bytes. WIPING holds the page being erased, 0..23, or 24 for the lock phase,
the remaining events of the whole wipe, and the failed pages. -/
inductive Engine where
  | idle
  | programming (page : Fin 32) (data : List Byte) (remaining : Nat)
  | appending (slot : Fin 32) (record : List Byte) (remaining : Nat)
  | wiping (page remaining failed : Nat)
  deriving DecidableEq, Repr

/-- A journal record on the queue (R189). -/
structure JournalRecord where
  kind   : JournalKind
  detail : Byte
  tick   : Tick
  ms     : Tick
  causes : Causes
  deriving DecidableEq, Repr

/-- The retained store: pages and lock set (R176), engine (R177), page buffer (R179), journal queue and loss count (R189),
next slot and next sequence of the ring (R190). -/
structure Store where
  pages       : Memory
  lockConfig  : Bool
  lockStandin : Bool
  lockUser    : Bool
  engine      : Engine
  buffer      : Memory
  queue       : List JournalRecord
  journalLost : Half
  nextSlot    : Fin 32
  nextSeq     : Half
  deriving DecidableEq, Repr

/-- A set of reset kinds (R196). -/
structure ResetSet where
  powerOn  : Bool
  brownout : Bool
  pin      : Bool
  soft     : Bool
  deriving DecidableEq, Repr

/-- Reset control (R195, R196, R198, R203). -/
structure SysCtl where
  phase       : Phase
  asserted    : ResetSet
  causes      : ResetSet
  outcome     : ConfigOutcome
  softPending : Bool
  deriving DecidableEq, Repr

/-- Whether the part drives MISO (R1, Table 11-6): high impedance, or driven with the bits of `Port.miso`. -/
inductive MisoPin where
  | hiZ | driven
  deriving DecidableEq, Repr

/-- The pins of Table 11-6 that hold a level: the inputs as last met, MISO, OUT0..OUT15, nATTN and nHRST (`true` is high). -/
structure Pins where
  inputs : InPins
  miso   : MisoPin
  out    : Vector PinLevel 16
  nAttn  : Bool
  nHrst  : Bool
  deriving DecidableEq, Repr

/-- The HS4816. `free` numbers the free values used so far (log 12); `pending` holds the events that wait, the next to be
served first (log 1). -/
structure State where
  port    : Port
  time    : Timebase
  chans   : Vector Channel 16
  cues    : CueTable
  edges   : EdgeUnit
  notes   : NoticeUnit
  ward    : Warden
  stand   : StandIn
  store   : Store
  sys     : SysCtl
  pins    : Pins
  free    : Nat
  pending : List Instr
  deriving DecidableEq, Repr

/-! ## Stops -/

/-- The block has no machine fault: every error of the manual is a status code or a notice, so no constructor is needed. -/
inductive Fault where
  deriving DecidableEq, Repr

/-- Refusals. -/
inductive Refusal where
  /-- Raised by exec for a command with no meaning yet; none is left. Safe. -/
  | notModelled (mnemonic : String)
  deriving DecidableEq, Repr

/-! ## Block updates -/

/-- The state with another port. -/
def State.setPort (s : State) (x : Port) : State := { s with port := x }
/-- The state with another timebase. -/
def State.setTime (s : State) (x : Timebase) : State := { s with time := x }
/-- The state with other channels. -/
def State.setChans (s : State) (x : Vector Channel 16) : State := { s with chans := x }
/-- The state with another cue table. -/
def State.setCues (s : State) (x : CueTable) : State := { s with cues := x }
/-- The state with another edge unit. -/
def State.setEdges (s : State) (x : EdgeUnit) : State := { s with edges := x }
/-- The state with another notice unit. -/
def State.setNotes (s : State) (x : NoticeUnit) : State := { s with notes := x }
/-- The state with another warden. -/
def State.setWard (s : State) (x : Warden) : State := { s with ward := x }
/-- The state with another stand-in engine. -/
def State.setStand (s : State) (x : StandIn) : State := { s with stand := x }
/-- The state with another store. -/
def State.setStore (s : State) (x : Store) : State := { s with store := x }
/-- The state with another reset control. -/
def State.setSys (s : State) (x : SysCtl) : State := { s with sys := x }
/-- The state with other pins. -/
def State.setPins (s : State) (x : Pins) : State := { s with pins := x }
/-- The state with another queue of waiting events. -/
def State.setPending (s : State) (q : List Instr) : State := { s with pending := q }
/-- The state with the next free value used up. -/
def State.useFree (s : State) : State := { s with free := s.free + 1 }

/-! ## Reset values (R201, Tables 11-1 to 11-5) -/

/-- R13, R19, R14, R23. -/
def Port.reset : Port := { cache := none, window := none, errors := 0, response := [], miso := [], ignoring := false }

/-- R27, R26, R31, R41; the items that step 5 sets hold the defaults until then (log 8). -/
def Timebase.reset : Timebase :=
  { configured := .internal, active := .internal, subst := false, refNew := false, refOld := false, xinSeen := false,
    sinceReady := 0, rate := 2, divider := 0, running := false, tick := 0, wardenMs := 0 }

/-- The channels hold no configuration before step 4 (R42); the model holds the defaults (log 8). -/
def Channel.reset : Channel :=
  { drive := .pushPull, safe := .low, owned := false, shut := false, level := .low }

/-- R84: every slot FREE with generation 0. -/
def Slot.reset : Slot := { gen := 0, cue := none }

/-- R84. -/
def CueTable.reset : CueTable :=
  { slots := Vector.replicate 48 Slot.reset, due := [], frozen := false, frozenDur := 0, fired := 0, missed := 0,
    skipped := 0, masked := 0, cut := 0, conflicts := 0 }

/-- R111: UNSETTLED, empty run, NONE; filter length 1 until step 1. -/
def Line.reset : Line :=
  { length := 1, select := .none, filtered := .unsettled, runValue := none, runCount := 0 }

/-- R111. -/
def EdgeUnit.reset : EdgeUnit :=
  { lines := Vector.replicate 8 Line.reset, log := [], capture := 0, lost := 0, gapPending := false,
    policy := .keepOldest, threshold := 1 }

/-- R131: clear, 0. -/
def Sticky.reset : Sticky := { latch := false, count := 0 }

/-- R125: ten enables yes, in the mask form of R130. -/
def NoticeUnit.reset : NoticeUnit :=
  { urgent := [], routine := [], seq := 0, enables := 0x07FE, conflict := Sticky.reset, edgesLost := Sticky.reset,
    journalLoss := Sticky.reset, urgentDropped := 0, routineDropped := 0, raised := [] }

/-- R141, with the defaults of Table 10-3 until step 1. -/
def Warden.reset : Warden :=
  { tMin := 0, tMax := 1000, threshold := 2, respStandin := true, respHrst := false, latch := false, autoArm := false,
    fsafeEnable := true, armed := false, elapsed := 0, closedPhase := false, expected := 0, strikes := 0,
    lastFault := .none, faults := 0, beatSince := false, hrst := 0, fsafeAsserted := false, fsafeRun := 0,
    fsafeDur := 0 }

/-- R160: no cause. -/
def Causes.none : Causes := { warden := false, command := false, fsafe := false, powerUp := false }

/-- R159. -/
def StandIn.reset : StandIn :=
  { state := .host, causes := Causes.none, standby := .none, validA := false, validB := false, evalPending := false,
    active := .none, pos := 0, masked := 0, entryStamp := 0 }

/-- R177, R179, R189 and Table 11-5; a new part has every page erased and no lock (R176). -/
def Store.reset : Store :=
  { pages := [], lockConfig := false, lockStandin := false, lockUser := false, engine := .idle, buffer := [],
    queue := [], journalLost := 0, nextSlot := 0, nextSeq := 0 }

/-- R196: no kind. -/
def ResetSet.none : ResetSet := { powerOn := false, brownout := false, pin := false, soft := false }

/-- R195: a reset is in effect. -/
def SysCtl.reset : SysCtl :=
  { phase := .inReset, asserted := ResetSet.none, causes := ResetSet.none, outcome := .erased, softPending := false }

/-- Table 11-6, third column; the inputs are the outside's (log 6). -/
def Pins.reset : Pins :=
  { inputs := { nCs := true, nFsafe := true, ins := 0 }, miso := .hiZ, out := Vector.replicate 16 .hiZ, nAttn := true,
    nHrst := true }

/-- A new part at its first POWER_ON reset, before release (R195, R201, log 3, log 19). -/
def State.reset : State :=
  { port := Port.reset, time := Timebase.reset, chans := Vector.replicate 16 Channel.reset, cues := CueTable.reset,
    edges := EdgeUnit.reset, notes := NoticeUnit.reset, ward := Warden.reset, stand := StandIn.reset,
    store := Store.reset, sys := { SysCtl.reset with asserted := { ResetSet.none with powerOn := true } },
    pins := Pins.reset, free := 0, pending := [] }

end Sys2Proof.Machine
end

