-- ==== Sys2Proof/Machine/Serial.lean ====
section
/-! DEFINITION. Serialization (R39 to R41): the classes of pending events, the order in which waiting events are served, and what a
reset abandons. -/

namespace Sys2Proof.Machine

/-- The classes of section 2.8. A row that is one step of a tick or of a warden-millisecond event has the class of that event
(log 5). A reset is no pending event (R41), and neither is the sequence that follows its release (R195). -/
inductive EventClass where
  | reset | powerUp | wardenMs | tick | command
  deriving DecidableEq, Repr

/-- R39, R41: the class of a command or event. -/
def eventClass : Instr → EventClass
  | .powerOnReset | .brownoutReset | .pinReset | .softReset => .reset
  | .powerUpSequence _ | .portReady => .powerUp
  | .wardenMsEvent _ | .confirmWindowExpiry | .clockSubst | .wardenTimeout | .closedPhaseEnd | .nhrstPulseEnd
  | .fsafeAssert | .fsafeClear | .storeProgramComplete _ | .wipeStepComplete _ | .wipeComplete | .journalAppendStart
  | .journalAppendComplete _ => .wardenMs
  | .tick _ | .qualifiedEdge _ | .trailingEdge _ | .leadingAction _ | .cueOverdue _ | .standinCycleEnd => .tick
  | .sysStatus _ | .sysIdentify _ | .sysCause _ | .sysResetReq _ | .sysResetConfirm _ | .sysUnstick _
  | .timeRead _ | .timeRun _ | .timeStop _ | .timeSet _ | .timeRate _ | .timeRestore _
  | .cueAdd _ | .cueCancel _ | .cueAmend _ | .cueQuery _ | .cueList _ | .cueHooks _ | .cuePurge _ | .cueFreeze _
  | .cueThaw _ | .cueStatus _
  | .chanSetup _ | .chanForce _ | .chanSeal _ | .chanRead _
  | .edgeSetup _ | .edgePolicy _ | .edgeRead _ | .edgeFlush _ | .edgeStatus _
  | .noteFirst _ | .noteNext _ | .noteEnable _ | .noteStatus _
  | .wardSetup _ | .wardArm _ | .wardBeat _ | .wardDisarmReq _ | .wardDisarmConfirm _ | .wardStatus _
  | .standEnter _ | .standReturnReq _ | .standReturnConfirm _ | .standStatus _
  | .storeRead _ | .storeLoad _ | .storeClear _ | .storeOpen _ | .storeProgram _ | .storeLock _ | .storeWipe _
  | .storeStatus _ | .storeJournal _
  | .frameAborted _ | .refusedTransaction _ | .lengthOutOfRange _ | .checkFailed _ | .replay _
  | .unknownCommandCode _ => .command

/-- R39, R41: the order of the classes: a reset takes effect before everything that waits; then the power-up sequence, which
begins at the release; then a warden-millisecond event, a tick, a command-class event. -/
def EventClass.rank : EventClass → Nat
  | .reset => 0
  | .powerUp => 1
  | .wardenMs => 2
  | .tick => 3
  | .command => 4

/-- R39: the queue once an event has become pending: behind every event of its class or of a class served before it, ahead of
every other. -/
def enqueue (c : Instr) (q : List Instr) : List Instr :=
  let first := fun d => decide ((eventClass d).rank ≤ (eventClass c).rank)
  q.takeWhile first ++ c :: q.dropWhile first

/-- R39: an event becomes pending (log 1). -/
def arrive (c : Instr) (s : State) : State := s.setPending (enqueue c s.pending)

/-- R41: whether a waiting event outlives a reset: ticks, warden-millisecond events and command-class events do not. -/
def outlivesReset (c : Instr) : Bool := (eventClass c).rank < EventClass.wardenMs.rank

end Sys2Proof.Machine
end

