-- ==== Sys2Proof/Machine/Codes.lean ====
section
/-! DEFINITION. The codes by which the manual reports its names (Tables 1-3, 4-2, 4-3, 7-3, 9-1, 10-5 and the payloads). -/

namespace Sys2Proof.Machine

/-- Table 1-3. -/
def Status.code : Status → Byte
  | .ok => 0x00 | .check => 0x01 | .format => 0x02 | .param => 0x03 | .state => 0x04 | .locked => 0x05
  | .busy => 0x06 | .stale => 0x07 | .full => 0x08 | .late => 0x09 | .horizon => 0x0A | .sequence => 0x0B
  | .beat => 0x0C

/-- R203, byte 8. -/
def WindowKind.code : WindowKind → Byte
  | .store => 0x01 | .disarm => 0x02 | .goBack => 0x03 | .reset => 0x04

/-- R31, bytes 10 and 11. -/
def Source.code : Source → Byte
  | .internal => 0x00 | .external => 0x01

/-- R54: two-bit level codes. -/
def Level.code : Level → Nat
  | .low => 0 | .high => 1 | .flt => 2

/-- R50, byte 2. -/
def Level.ofCode (b : Byte) : Option Level :=
  if b = 0 then some .low else if b = 1 then some .high else if b = 2 then some .flt else none

/-- R52, byte 2, and Table 10-4. -/
def LevelKind.ofCode (b : Byte) : Option LevelKind :=
  if b = 0 then some .low else if b = 1 then some .high else if b = 2 then some .flt
  else if b = 3 then some .toggle else none

/-- Table 4-3, byte 7. -/
def Action.code : Action → Byte
  | .driveHigh => 0x00 | .driveLow => 0x01 | .flt => 0x02 | .toggle => 0x03 | .pulseHigh => 0x04
  | .pulseLow => 0x05 | .notify => 0x06

/-- Table 4-3, byte 7; R64: a code above 06h is no action. -/
def Action.ofCode (b : Byte) : Option Action :=
  if b = 0 then some .driveHigh else if b = 1 then some .driveLow else if b = 2 then some .flt
  else if b = 3 then some .toggle else if b = 4 then some .pulseHigh else if b = 5 then some .pulseLow
  else if b = 6 then some .notify else none

/-- Table 4-3, byte 2 of the trigger data. -/
def HookEdge.ofCode (b : Byte) : Option HookEdge :=
  if b = 0 then some .rising else if b = 1 then some .falling else if b = 2 then some .either else none

/-- R80, byte 2. -/
def Wait.code : Wait → Byte
  | .armed _ _ _ => 0x01 | .inPulse _ _ _ _ => 0x02 | .hooked => 0x03

/-- R115, byte 2, and Table 6-4. -/
def Selection.code : Selection → Nat
  | .none => 0 | .rising => 1 | .falling => 2 | .either => 3

/-- R115, byte 2. -/
def Selection.ofCode (b : Byte) : Option Selection :=
  if b = 0 then some .none else if b = 1 then some .rising else if b = 2 then some .falling
  else if b = 3 then some .either else Option.none

/-- Table 6-4, bytes 8-9: two-bit codes. -/
def FiltLevel.code : FiltLevel → Nat
  | .low => 0 | .high => 1 | .unsettled => 2

/-- R121, byte 0. -/
def FullPolicy.code : FullPolicy → Byte
  | .keepOldest => 0x00 | .keepNewest => 0x01

/-- Table 7-3. -/
def NoticeClass.code : NoticeClass → Byte
  | .fired => 0x01 | .skipped => 0x02 | .missed => 0x03 | .cut => 0x04 | .seriesEnd => 0x05 | .conflict => 0x06
  | .edgesReady => 0x07 | .edgesLost => 0x08 | .storeDone => 0x09 | .journalLoss => 0x0A | .routineOverflow => 0x0F
  | .wardenFault => 0x81 | .standinEnter => 0x82 | .standinReturn => 0x83 | .fsafeClear => 0x84
  | .clockSubst => 0x85 | .storeFault => 0x86 | .configBad => 0x87 | .urgentOverflow => 0x8F

/-- R127: bit 7 of the class code is 1 for every urgent-lane class. -/
def NoticeClass.urgent (c : NoticeClass) : Bool := c.code.getLsbD 7

/-- R148. -/
def FaultKind.code : FaultKind → Byte
  | .none => 0x00 | .early => 0x01 | .late => 0x02 | .wrongCount => 0x03

/-- R159. -/
def StandState.code : StandState → Byte
  | .host => 0x00 | .run => 0x01 | .ended => 0x02 | .safe => 0x03

/-- R160: bit 0 WARDEN, bit 1 COMMAND, bit 2 FSAFE, bit 3 POWER_UP. -/
def Causes.code (c : Causes) : Byte := packBits [c.powerUp, c.fsafe, c.command, c.warden]

/-- R196: bit 0 POWER_ON, bit 1 BROWNOUT, bit 2 PIN, bit 3 SOFT. -/
def ResetSet.code (c : ResetSet) : Byte := packBits [c.soft, c.pin, c.brownout, c.powerOn]

/-- R163, R174: 0 none, 1 A, 2 B. -/
def Bank.code : Bank → Byte
  | .a => 0x01 | .b => 0x02

/-- The bank of an image that may be none (R174). -/
def bankCode (i : Option Image) : Byte := match i with | none => 0x00 | some x => x.bank.code

/-- Table 10-4, byte 1. -/
def ProgramMode.code : ProgramMode → Byte
  | .cycle => 0x00 | .once => 0x01

/-- R189. -/
def JournalKind.code : JournalKind → Byte
  | .reset => 0x01 | .configBad => 0x02 | .standinEnter => 0x03 | .standinReturn => 0x04 | .wardenFault => 0x05
  | .clockSubst => 0x06 | .storeFault => 0x07 | .wipe => 0x08

/-- R203, byte 7. -/
def ConfigOutcome.code : ConfigOutcome → Byte
  | .erased => 0x00 | .valid => 0x01 | .bad => 0x02

/-- R194, byte 0. -/
def Engine.code : Engine → Byte
  | .idle => 0x00 | .programming _ _ _ => 0x01 | .appending _ _ _ => 0x01 | .wiping _ _ _ => 0x02

end Sys2Proof.Machine
end

