-- ==== Sys2Proof/Machine/Flags.lean ====
section
/-! DEFINITION. The summary flags of every response (R18, Table 1-4). -/

namespace Sys2Proof.Machine

/-- At least one notice is queued in either lane (R18, R139). -/
def attention (s : State) : Bool := !s.notes.urgent.isEmpty || !s.notes.routine.isEmpty

/-- The store engine is PROGRAMMING or WIPING (R18, R177). -/
def storeBusy (s : State) : Bool := s.store.engine != .idle

/-- R18, Table 1-4: bit 7 ATTN, 6 URGENT, 5 STANDIN, 4 STORE_BUSY, 3 FROZEN, 2 CONFIRM_OPEN, 1 CLOCK_SUBST,
0 REPLAYED. -/
def summaryFlags (s : State) (replayed : Bool) : Byte :=
  packBits [attention s, !s.notes.urgent.isEmpty, s.stand.state != .host, storeBusy s, s.cues.frozen,
    s.port.window.isSome, s.time.subst, replayed]

end Sys2Proof.Machine
end

