-- ==== Sys2Proof/Machine/Memory.lean ====
section
/-! DEFINITION. The addressed memories of the part: the retained store (R176) and the page buffer (R179), each a canonical list of
cells whose unlisted addresses read FFh. -/

namespace Sys2Proof.Machine

/-- What an unlisted address reads as: an erased byte reads FFh (R176). -/
def erasedByte : Byte := 0xFF

/-- The byte at an address. -/
def Memory.read : Memory → Nat → Byte
  | [], _ => erasedByte
  | (k, b) :: rest, a => if a = k then b else Memory.read rest a

/-- Put a byte at an address, keeping the canonical form: writing FFh takes the entry out. -/
def Memory.write : Memory → Nat → Byte → Memory
  | [], a, b => if b = erasedByte then [] else [(a, b)]
  | (k, c) :: rest, a, b =>
    if a < k then (if b = erasedByte then (k, c) :: rest else (a, b) :: (k, c) :: rest)
    else if a = k then (if b = erasedByte then rest else (a, b) :: rest)
    else (k, c) :: Memory.write rest a b

/-- Put a run of bytes from an address onward. -/
def Memory.writeRun (m : Memory) (a : Nat) : List Byte → Memory
  | [] => m
  | b :: bs => Memory.writeRun (m.write a b) (a + 1) bs

/-- The bytes of a run of addresses. -/
def Memory.readRun (m : Memory) (a n : Nat) : List Byte := (List.range n).map fun i => m.read (a + i)

/-- The first address of a page (R176: 64 bytes each). -/
def pageBase (page : Nat) : Nat := 64 * page

/-- The 64 bytes of a page. -/
def Memory.page (m : Memory) (page : Nat) : List Byte := m.readRun (pageBase page) 64

/-- Sixty-four erased bytes. -/
def erasedPage : List Byte := List.replicate 64 erasedByte

/-- The first address of a ring slot (R190). -/
def slotBase (slot : Nat) : Nat := pageBase (24 + slot / 4) + 16 * (slot % 4)

end Sys2Proof.Machine
end

