-- ==== Sys2Proof/Machine/Ops.lean ====
section
/-! DEFINITION. The operations that the blocks share: raising and queueing notices (chapter 7), pins (R46, R139, R150), channel
writes and cuts (R44, R47, R48), and the journal queue with the start of an append (R178, R189, R191). -/

namespace Sys2Proof.Machine

/-! ## Notices -/

/-- R130: whether a class may pass: it has an enable and that enable is yes, or it has none. -/
def NoticeUnit.enabled (u : NoticeUnit) (c : NoticeClass) : Bool :=
  if c.urgent || c == .routineOverflow then true else u.enables.getLsbD c.code.toNat

/-- R128 step 3: whether the lane of a class holds its full number of notices. -/
def NoticeUnit.laneFull (u : NoticeUnit) (c : NoticeClass) : Bool :=
  if c.urgent then Config.urgentSize ≤ u.urgent.length else Config.routineSize ≤ u.routine.length

/-- R131: the latch and counter of a class, if it is sticky. -/
def NoticeUnit.sticky (u : NoticeUnit) : NoticeClass → Option Sticky
  | .conflict => some u.conflict
  | .edgesLost => some u.edgesLost
  | .journalLoss => some u.journalLoss
  | _ => none

/-- The notice unit with another latch and counter for a sticky class; no effect for the other classes. -/
def NoticeUnit.setSticky (u : NoticeUnit) (c : NoticeClass) (x : Sticky) : NoticeUnit :=
  match c with
  | .conflict => { u with conflict := x }
  | .edgesLost => { u with edgesLost := x }
  | .journalLoss => { u with journalLoss := x }
  | _ => u

/-- R128 step 4: take the next sequence number and append at the newest end of the lane. -/
def NoticeUnit.append (u : NoticeUnit) (r : Raised) (detail : Half) : NoticeUnit :=
  let n : Notice := { seq := u.seq, cls := r.cls, handle := r.handle, tag := r.tag, stamp := r.stamp, detail := detail }
  if r.cls.urgent then { u with urgent := u.urgent ++ [n], seq := u.seq + 1 }
  else { u with routine := u.routine ++ [n], seq := u.seq + 1 }

/-- R133: count a notice that its full lane could not take. -/
def NoticeUnit.drop (u : NoticeUnit) (c : NoticeClass) : NoticeUnit :=
  if c.urgent then { u with urgentDropped := satInc u.urgentDropped }
  else { u with routineDropped := satInc u.routineDropped }

/-- R128: take one raised notice through enable, sticky count, room and queue. R131: the detail of EDGES_LOST and
JOURNAL_LOSS is the counter after the increment. -/
def NoticeUnit.enter (u : NoticeUnit) (r : Raised) : NoticeUnit :=
  if !u.enabled r.cls then u
  else
    match u.sticky r.cls with
    | none => if u.laneFull r.cls then u.drop r.cls else u.append r r.detail
    | some k =>
      let count := satInc k.count
      let counted := u.setSticky r.cls { k with count := count }
      if k.latch then counted
      else if counted.laneFull r.cls then counted.drop r.cls
      else
        let detail := if r.cls == .conflict then r.detail else count
        (counted.append r detail).setSticky r.cls { latch := true, count := count }

/-- R129: the raised notices enter, in the order in which they were raised. -/
def NoticeUnit.enterAll (u : NoticeUnit) : NoticeUnit :=
  { u.raised.foldl NoticeUnit.enter u with raised := [] }

/-- Raise a notice stamped with the tick count (R37). It enters its lane when the event ends (log 14). -/
def raise (c : NoticeClass) (handle tag detail : Half) (s : State) : State :=
  s.setNotes { s.notes with
    raised := s.notes.raised ++ [{ cls := c, handle := handle, tag := tag, stamp := s.time.tick, detail := detail }] }

/-! ## Pins -/

/-- R45. -/
def present : Drive → Level → PinLevel
  | .pushPull, .low => .low
  | .pushPull, .high => .high
  | .pushPull, .flt => .hiZ
  | .openDrain, .low => .low
  | .openDrain, .high => .hiZ
  | .openDrain, .flt => .hiZ

/-- R42, R199 step 4: whether the OUT pins are still in high impedance. -/
def Phase.outputsHeld : Phase → Bool
  | .inReset => true
  | .poweringUp done => done.val < 4
  | .ready => false

/-- What the sixteen OUT pins present (R42, R45, R46): high impedance until step 4 of the power-up sequence, then the
commanded levels under their drive types. -/
def outPins (s : State) : Vector PinLevel 16 :=
  if s.sys.phase.outputsHeld then Vector.replicate 16 .hiZ
  else Vector.ofFn fun i => present s.chans[i].drive s.chans[i].level

/-- R1, Table 11-6: MISO is in high impedance while nCS is high. -/
def misoPin (nCs : Bool) : MisoPin := if nCs then .hiZ else .driven

/-- The input pins as an event meets them; MISO follows nCS (R1), and nCS found high has ended a transaction that the port was
still ignoring (R22). -/
def meetInputs (pins : InPins) (s : State) : State :=
  (s.setPins { s.pins with inputs := pins, miso := misoPin pins.nCs }).setPort
    { s.port with ignoring := s.port.ignoring && !pins.nCs }

/-- The output pins at the end of an event: OUT0..OUT15 (R46), nATTN low while the port is ready and a notice is queued
(R139), nHRST low while its remaining time is not 0 (R150). -/
def showPins (s : State) : State :=
  s.setPins { s.pins with out := outPins s, nAttn := !(s.sys.phase == .ready && attention s), nHrst := s.ward.hrst == 0 }

/-- The end of an event: its notices enter their lanes (R129), then the pins follow the state (R36 stages 5 and 6, R46,
R139). -/
def settle (s : State) : State := showPins (s.setNotes s.notes.enterAll)

/-! ## Channels -/

/-- R44: the resulting level of a write. -/
def resulting : LevelKind → Level → Level
  | .high, _ => .high
  | .low, _ => .low
  | .flt, _ => .flt
  | .toggle, .high => .low
  | .toggle, .low => .high
  | .toggle, .flt => .flt

/-- The level kind that names a level (R162 step 4). -/
def Level.kind : Level → LevelKind
  | .low => .low | .high => .high | .flt => .flt

/-- The mask of the channels with a property, bit n for channel n. -/
def maskOf (p : Channel → Bool) (chans : Vector Channel 16) : Half := BitVec.ofFnLE fun i : Fin 16 => p chans[i]

/-- R43: the channels owned by STANDIN, none while the stand-in state is HOST. -/
def standinMask (s : State) : Half := if s.stand.state = .host then 0 else maskOf Channel.owned s.chans

/-- R44, R47: write a level kind to the channels of a mask. -/
def writeMask (m : Half) (k : LevelKind) (chans : Vector Channel 16) : Vector Channel 16 :=
  Vector.ofFn fun i =>
    if m.getLsbD i.val then { chans[i] with level := resulting k chans[i].level } else chans[i]

/-- R162 step 4: write to each channel of a mask the level kind of its own safe level. -/
def writeSafe (m : Half) (chans : Vector Channel 16) : Vector Channel 16 :=
  Vector.ofFn fun i =>
    if m.getLsbD i.val then { chans[i] with level := resulting chans[i].safe.kind chans[i].level } else chans[i]

/-! ## Cues by slot, and cuts -/

/-- The cue of a slot. -/
def State.cueAt (s : State) (n : Fin 48) : Option Cue := s.cues.slots[n].cue

/-- The state with another cue in a slot; the generation stays. -/
def State.setCue (s : State) (n : Fin 48) (c : Cue) : State :=
  s.setCues { s.cues with slots := s.cues.slots.set n.val { s.cues.slots[n] with cue := some c } n.isLt }

/-- R59: slot number times 1024 plus generation. -/
def handleOf (s : State) (n : Fin 48) : Half := halfN (n.val * 1024 + s.cues.slots[n].gen.toNat)

/-- R48, R99: what one cutting write to the channels of a mask does to the cue of one slot, the writing cue apart. -/
def cutSlot (m : Half) (writer : Option (Fin 48)) (s : State) (n : Fin 48) : State :=
  if writer = some n then s
  else
    match s.cueAt n with
    | none => s
    | some c =>
      match c.wait with
      | .armed _ _ _ => s
      | .hooked => s
      | .inPulse trail sched mask ending =>
        let lost := mask &&& m
        if lost = 0 then s
        else
          let s := s.setCue n { c with wait := .inPulse trail sched (mask &&& ~~~m) ending }
          let s := s.setCues { s.cues with cut := s.cues.cut + BitVec.ofNat 32 (maskCount lost) }
          raise .cut (handleOf s n) c.tag lost s

/-- R48, R99: one cutting write; cut cues are notified in ascending slot order. -/
def cutBy (m : Half) (writer : Option (Fin 48)) (s : State) : State :=
  (List.finRange 48).foldl (cutSlot m writer) s

/-- The union of the pending trailing masks of the IN_PULSE cues (R48). -/
def pendingMask (s : State) : Half :=
  (List.finRange 48).foldl (fun m n =>
    match (s.cueAt n).map Cue.wait with
    | some (.inPulse _ _ mask _) => m ||| mask
    | _ => m) 0

/-- R47, R48: drive the channels of a mask with a level kind, and cut. -/
def driveAndCut (m : Half) (k : LevelKind) (writer : Option (Fin 48)) (s : State) : State :=
  cutBy m writer (s.setChans (writeMask m k s.chans))

/-! ## Journal queue -/

/-- R190: the sixteen bytes of a journal record. -/
def recordBytes (seq : Half) (r : JournalRecord) : List Byte :=
  let body := be16 seq ++ [r.kind.code, r.detail] ++ be32 r.tick ++ be32 r.ms ++ [r.causes.code, 0, 0]
  body ++ [crc8 body]

/-- R178, R191: whether an append starts: the engine is IDLE and a record waits. -/
def appendDue (s : State) : Bool := s.store.engine == .idle && !s.store.queue.isEmpty

/-- R191: the oldest queued record takes the next sequence and the next slot, and the engine starts to append it. -/
def startAppend (s : State) : State :=
  match s.store.queue with
  | [] => s
  | r :: rest =>
    s.setStore { s.store with
      engine := .appending s.store.nextSlot (recordBytes s.store.nextSeq r) 5
      queue := rest
      nextSlot := s.store.nextSlot + 1
      nextSeq := s.store.nextSeq + 1 }

/-- R178: the engine takes up the head of the journal queue when it is IDLE. -/
def takeUpJournal (s : State) : State := if appendDue s then startAppend s else s

/-- R189: queue a journal record with the facts of the moment, or lose it to a full queue; then R178. -/
def queueJournal (k : JournalKind) (detail : Byte) (s : State) : State :=
  if s.store.queue.length < Config.queueSize then
    takeUpJournal (s.setStore { s.store with
      queue := s.store.queue ++
        [{ kind := k, detail := detail, tick := s.time.tick, ms := s.time.wardenMs, causes := s.stand.causes }] })
  else
    raise .journalLoss 0 0 0 (s.setStore { s.store with journalLost := satInc s.store.journalLost })

/-! ## Events -/

/-- What an event of the clocks does: when the port is ready and the event is due, its effect and the end of the event;
otherwise the event does not take place (log 5). -/
def occur (due : Bool) (effect : State → State) (s : State) : State :=
  if s.sys.phase == .ready && due then settle (effect s) else s

end Sys2Proof.Machine
end

