-- ==== Sys2Proof/Machine/StoreFormat.lean ====
section
/-! DEFINITION. The formats of the retained store: the configuration record (R187), the stand-in image (R188), and the journal
ring (R190, R192). -/

namespace Sys2Proof.Machine

/-! ## Configuration record -/

/-- What a configuration record, or the defaults of Table 10-3, give the power-up sequence. -/
structure ConfigRecord where
  source      : Source
  running     : Bool
  standin     : Bool
  fsafeEnable : Bool
  autoArm     : Bool
  latch       : Bool
  rate        : Fin 4
  tMin        : Half
  tMax        : Half
  threshold   : Nat
  respStandin : Bool
  respHrst    : Bool
  chans       : Vector Channel 16
  lengths     : Vector Nat 8
  deriving DecidableEq, Repr

/-- Table 10-3. -/
def ConfigRecord.defaults : ConfigRecord :=
  { source := .internal, running := false, standin := false, fsafeEnable := true, autoArm := false, latch := false,
    rate := 2, tMin := 0, tMax := 1000, threshold := 2, respStandin := true, respHrst := false,
    chans := Vector.replicate 16 Channel.reset, lengths := Vector.replicate 8 1 }

/-- R141, R187: T_max lies in 2..60000. -/
def validTMax (tMax : Half) : Bool := 2 ≤ tMax.toNat && tMax.toNat ≤ 60000

/-- R141, R187: T_min is less than T_max. -/
def validTMin (tMin tMax : Half) : Bool := tMin.toNat < tMax.toNat

/-- R141, R187: a strike threshold of 1..3. -/
def validThreshold (b : Byte) : Bool := 1 ≤ b.toNat && b.toNat ≤ 3

/-- R141: bits 7 to 2 of a response byte are 0. -/
def validResponse (b : Byte) : Bool := b &&& 0xFC == 0

/-- Table 10-2: a channel byte: bits 2-1 not 11b, bits 7-5 zero. -/
def validChannelByte (b : Byte) : Bool := b &&& 0xE0 == 0 && b &&& 0x06 != 0x06

/-- R111: a filter length of 1..8. -/
def validLength (b : Byte) : Bool := 1 ≤ b.toNat && b.toNat ≤ 8

/-- Table 10-2: the fields of bytes 1 to 61 in byte order, each with its offset and whether it is valid. -/
def configFields (p : List Byte) : List (Nat × Bool) :=
  [(1, byteAt p 1 &&& 0xC0 == 0), (2, decide ((byteAt p 2).toNat ≤ 3)),
    (3, validTMin (halfAt p 3) (halfAt p 5)), (5, validTMax (halfAt p 5)),
    (7, validThreshold (byteAt p 7)), (8, validResponse (byteAt p 8))] ++
  (List.range 16).map (fun i => (9 + i, validChannelByte (byteAt p (9 + i)))) ++
  (List.range 8).map (fun i => (25 + i, validLength (byteAt p (25 + i)))) ++
  (List.range 29).map (fun i => (33 + i, byteAt p (33 + i) == 0))

/-- Table 10-2: the channel that a channel byte gives, its commanded level equal to its safe level (R42). -/
def channelOfByte (b : Byte) : Channel :=
  let safe : Level := if b.getLsbD 2 then .flt else if b.getLsbD 1 then .high else .low
  { drive := if b.getLsbD 0 then .openDrain else .pushPull, safe := safe, owned := b.getLsbD 3, shut := b.getLsbD 4,
    level := safe }

/-- Table 10-2: the values of a valid record. -/
def configOf (p : List Byte) : ConfigRecord :=
  let flags := byteAt p 1
  { source := if flags.getLsbD 0 then .external else .internal
    running := flags.getLsbD 1
    standin := flags.getLsbD 2
    fsafeEnable := flags.getLsbD 3
    autoArm := flags.getLsbD 4
    latch := flags.getLsbD 5
    rate := Fin.ofNat 4 (byteAt p 2).toNat
    tMin := halfAt p 3
    tMax := halfAt p 5
    threshold := (byteAt p 7).toNat
    respStandin := (byteAt p 8).getLsbD 0
    respHrst := (byteAt p 8).getLsbD 1
    chans := Vector.ofFn fun i => channelOfByte (byteAt p (9 + i.val))
    lengths := Vector.ofFn fun i => (byteAt p (25 + i.val)).toNat }

/-- The three outcomes of R187. A bad record carries the offset of the first failing byte and the reason. -/
inductive RecordClass where
  | erased
  | valid (c : ConfigRecord)
  | bad (offset reason : Nat)
  deriving DecidableEq, Repr

/-- R187: class page 0, testing the CRC, the format byte and the fields in that order. -/
def classRecord (p : List Byte) : RecordClass :=
  if p = erasedPage then .erased
  else if crc16 (p.take 62) ≠ halfAt p 62 then .bad 0xFF 1
  else if byteAt p 0 ≠ 0x01 then .bad 0 2
  else
    match (configFields p).find? fun f => !f.2 with
    | some f => .bad f.1 3
    | none => .valid (configOf p)

/-! ## Stand-in image -/

/-- R188: the first page of a bank. -/
def bankPage : Bank → Nat
  | .a => 1
  | .b => 5

/-- R188: the 256 bytes of a bank. -/
def bankBytes (m : Memory) (k : Bank) : List Byte := m.readRun (pageBase (bankPage k)) 256

/-- Table 10-4: one step of six bytes, if its level kind is defined. -/
def stepAt (p : List Byte) (i : Nat) : Option ProgramStep :=
  let base := 8 + 6 * i
  (LevelKind.ofCode (byteAt p (base + 5))).map fun k =>
    { offset := (triAt p base).toNat, mask := halfAt p (base + 3), kind := k }

/-- R188: the steps of an image; none if any level kind is undefined. -/
def stepsOf (p : List Byte) (n : Nat) : Option (List ProgramStep) := (List.range n).mapM (stepAt p)

/-- R188: every offset is less than the cycle length, and offsets do not decrease. -/
def offsetsOk (length : Nat) (steps : List ProgramStep) : Bool :=
  steps.all (fun x => x.offset < length) && decide (steps.Pairwise fun x y => x.offset ≤ y.offset)

/-- Table 10-4, byte 1. -/
def modeOf (b : Byte) : Option ProgramMode :=
  if b = 0 then some .cycle else if b = 1 then some .once else none

/-- R188: the image of a bank, if the bank is valid. -/
def parseImage (k : Bank) (p : List Byte) : Option Image :=
  if byteAt p 0 ≠ 0x01 then none
  else
    match modeOf (byteAt p 1) with
    | none => none
    | some mode =>
      let n := (byteAt p 7).toNat
      let length := (triAt p 4).toNat
      if n = 0 ∨ 32 < n ∨ length = 0 then none
      else
        match stepsOf p n with
        | none => none
        | some steps =>
          if offsetsOk length steps && crc16 (p.take (8 + 6 * n)) == halfAt p (8 + 6 * n) then
            some { bank := k, mode := mode, gen := halfAt p 2, length := length, steps := steps }
          else none

/-- R165: the image of a bank as the store stands, if the bank is valid. -/
def bankImage (m : Memory) (k : Bank) : Option Image := parseImage k (bankBytes m k)

/-- R166: the selected image: the higher generation as a plain number, A if they are equal. -/
def selectImage : Option Image → Option Image → Option Image
  | none, none => none
  | some x, none => some x
  | none, some y => some y
  | some x, some y => if x.gen.toNat < y.gen.toNat then some y else some x

/-! ## Journal ring -/

/-- The sixteen bytes of a ring slot (R190). -/
def slotBytes (m : Memory) (slot : Nat) : List Byte := m.readRun (slotBase slot) 16

/-- R190: a slot is valid when its kind is not FFh and its check byte is right. -/
def slotValid (p : List Byte) : Bool := byteAt p 2 != 0xFF && byteAt p 15 == crc8 (p.take 15)

/-- The journal sequence of a record's bytes (Table 10-5). -/
def recordSeq (p : List Byte) : Half := halfAt p 0

/-- R190: the valid slots of the ring in ascending order. -/
def validSlots (m : Memory) : List Nat := (List.range 32).filter fun k => slotValid (slotBytes m k)

/-- R192: record a is newer than record b. -/
def newer (m : Memory) (a b : Nat) : Bool :=
  let d := (recordSeq (slotBytes m a) - recordSeq (slotBytes m b)).toNat
  1 ≤ d && d ≤ 32767

/-- R192: how many of some slots a slot is newer than. -/
def newerCount (m : Memory) (slots : List Nat) (a : Nat) : Nat := slots.countP (newer m a)

/-- R192: the newest valid slot: newer than the greatest number of others (all of them, when the ring is sound), and among
equals the lowest slot. -/
def newestSlot (m : Memory) : Option Nat :=
  let slots := validSlots m
  slots.foldl (fun best k =>
    match best with
    | none => some k
    | some b => if newerCount m slots b < newerCount m slots k then some k else best) none

/-- R192: the next slot and the next sequence that the scan sets. -/
def scanRing (m : Memory) : Fin 32 × Half :=
  match newestSlot m with
  | none => (0, 0)
  | some k => (Fin.ofNat 32 (k + 1), recordSeq (slotBytes m k) + 1)

/-- R193: the age of a slot's record, from the newest. -/
def ageOf (m : Memory) (newest k : Nat) : Nat := (recordSeq (slotBytes m newest) - recordSeq (slotBytes m k)).toNat

/-- R193: put a slot behind every slot of the same or a smaller age. -/
def insertByAge (m : Memory) (newest k : Nat) : List Nat → List Nat
  | [] => [k]
  | j :: rest =>
    if ageOf m newest j ≤ ageOf m newest k then j :: insertByAge m newest k rest else k :: j :: rest

/-- R193: the valid slots from the newest: the newest first, the others by increasing age, among equals by ascending
slot. -/
def slotsByAge (m : Memory) : List Nat :=
  match newestSlot m with
  | none => []
  | some n => n :: ((validSlots m).filter fun k => k != n).foldl (fun acc k => insertByAge m n k acc) []

end Sys2Proof.Machine
end

