-- ==== Sys2Proof/Machine/StandOps.lean ====
section
/-! DEFINITION. The stand-in engine's shared operations: evaluation of the banks (R165, R167) and entry (R161, R162). -/

namespace Sys2Proof.Machine

/-- R165: read both banks, check them, select one and rebuild the standby copy; evaluation pending is cleared (R167). -/
def evaluateBanks (s : State) : State :=
  let imageA := bankImage s.store.pages .a
  let imageB := bankImage s.store.pages .b
  s.setStand { s.stand with
    validA := imageA.isSome, validB := imageB.isSome, standby := selectImage imageA imageB, evalPending := false }

/-- R167: an evaluation is wanted by a store completion: made in HOST, deferred otherwise. -/
def wantEvaluation (s : State) : State :=
  if s.stand.state = .host then evaluateBanks s else s.setStand { s.stand with evalPending := true }

/-- The causes of R160. -/
inductive Cause where
  | warden | command | fsafe | powerUp
  deriving DecidableEq, Repr

/-- R160: add a cause to a cause set. -/
def Causes.add (c : Causes) : Cause → Causes
  | .warden => { c with warden := true }
  | .command => { c with command := true }
  | .fsafe => { c with fsafe := true }
  | .powerUp => { c with powerUp := true }

/-- R160: the set of one cause. -/
def Cause.alone (c : Cause) : Causes := Causes.none.add c

/-- R162 steps 1 to 3: the cause, the warden's indicator and the counters, and the timebase. -/
def entryStart (c : Cause) (s : State) : State :=
  let s := s.setStand { s.stand with
    state := if s.stand.standby.isSome then .run else .safe
    causes := s.stand.causes.add c
    masked := 0
    entryStamp := s.time.tick }
  let s := s.setWard { s.ward with beatSince := false }
  if s.time.running then s else s.setTime { s.time with running := true, divider := 0 }

/-- R162 step 4: every stand-in-owned channel is driven to its safe level, as one cutting write. -/
def entryDrive (s : State) : State :=
  cutBy (standinMask s) none (s.setChans (writeSafe (standinMask s) s.chans))

/-- R162 step 5: the standby copy becomes the active image, at cycle position 0. -/
def entryImage (s : State) : State :=
  s.setStand { s.stand with active := s.stand.standby, pos := 0 }

/-- R163: the detail of STANDIN_ENTER. -/
def entryDetail (c : Cause) (s : State) : Half :=
  halfN (256 * s.stand.state.code.toNat + 16 * (bankCode s.stand.active).toNat + c.alone.code.toNat)

/-- R162: stand-in entry from HOST. -/
def enterStandin (c : Cause) (s : State) : State :=
  let s := entryImage (entryDrive (entryStart c s))
  queueJournal .standinEnter c.alone.code (raise .standinEnter 0 0 (entryDetail c s) s)

/-- R161: a request for stand-in entry: an entry from HOST, otherwise only its cause. -/
def requestStandin (c : Cause) (s : State) : State :=
  if s.stand.state = .host then enterStandin c s
  else s.setStand { s.stand with causes := s.stand.causes.add c }

end Sys2Proof.Machine
end

