-- ==== Sys2Proof/Machine/ResetOps.lean ====
section
/-! DEFINITION. What a reset does as it takes effect (R41, R185, R195, R201). -/

namespace Sys2Proof.Machine

/-- R185: one byte of an interrupted write: its old value, its new value or FFh, which one is a free value (log 9). -/
def tornByte (n i : Nat) (old new : Byte) : Byte :=
  if Config.tearChoice n i % 3 = 0 then old
  else if Config.tearChoice n i % 3 = 1 then new
  else erasedByte

/-- R185: the bytes that an interrupted write of some new bytes at an address leaves there. -/
def tornRun (m : Memory) (n base : Nat) (new : List Byte) : List Byte :=
  new.mapIdx fun i x => tornByte n i (m.read (base + i)) x

/-- R185: the memory after a write of some bytes at an address was interrupted. -/
def Memory.tear (m : Memory) (n base : Nat) (new : List Byte) : Memory := m.writeRun base (tornRun m n base new)

/-- R191: the bytes and the address that an append writes: the whole page for its first slot, else the sixteen bytes of its
slot. -/
def appendWrite (slot : Fin 32) (record : List Byte) : Nat × List Byte :=
  if slot.val % 4 = 0 then (slotBase slot.val, record ++ List.replicate 48 erasedByte)
  else (slotBase slot.val, record)

/-- R185: the pages after a reset has stopped the engine. -/
def tornPages (s : State) : Memory :=
  let m := s.store.pages
  match s.store.engine with
  | .idle => m
  | .programming page data _ => m.tear s.free (pageBase page.val) data
  | .appending slot record _ => m.tear s.free (appendWrite slot record).1 (appendWrite slot record).2
  | .wiping page _ _ => if page < 24 then m.tear s.free (pageBase page) erasedPage else m

/-- R196: note that a kind is asserted. -/
def ResetSet.add (r : ResetSet) : ResetKind → ResetSet
  | .powerOn => { r with powerOn := true }
  | .brownout => { r with brownout := true }
  | .pin => { r with pin := true }
  | .soft => { r with soft := true }

/-- R23: MISO over a transaction that a reset met after `sent` rising edges of SCK: the bits sent by then, and 00h for the rest. -/
def misoLost (sent : Nat) (miso : List Bool) : List Bool := miso.take sent ++ List.replicate (miso.length - sent) false

/-- R23: how many rising edges of SCK the last transaction has had as a reset takes effect: all of them when nCS was found high
since, or for a soft reset, which comes at its end (R198); else a free value (log 26). -/
def sentBefore (k : ResetKind) (s : State) : Nat :=
  if s.pins.inputs.nCs ∨ k = .soft then s.port.miso.length else Config.resetMoment s.free % (s.port.miso.length + 1)

/-- R41, R195, R201: a reset takes effect: every volatile item takes its reset value; the pages (R185), the lock set
(R176) and the reset cause set (R196, log 23) are kept; the kind is noted. Waiting ticks, warden-millisecond events and
command-class events are abandoned (R41, log 18); MISO carries 00h for the rest of the transaction (R23). The input pins belong
to the outside (log 6). -/
def takeReset (k : ResetKind) (s : State) : State :=
  { State.reset with
    port := { Port.reset with miso := misoLost (sentBefore k s) s.port.miso }
    store := { Store.reset with
      pages := tornPages s
      lockConfig := s.store.lockConfig
      lockStandin := s.store.lockStandin
      lockUser := s.store.lockUser }
    sys := { SysCtl.reset with asserted := s.sys.asserted.add k, causes := s.sys.causes }
    pins := { Pins.reset with inputs := s.pins.inputs, miso := misoPin s.pins.inputs.nCs }
    free := s.free + 1
    pending := s.pending.filter outlivesReset }

end Sys2Proof.Machine
end

