-- ==== Sys2Proof/Machine/PortOps.lean ====
section
/-! DEFINITION. How the port serves a transaction (chapter 1): the response frame (R6), MISO (R3), the frame outcomes (R8 to R12),
the replay cache (R13) and the confirmation window (R19 to R21). -/

namespace Sys2Proof.Machine

/-! ## Responses -/

/-- R6: a response frame; a status other than OK carries no payload. -/
def responseFrame (seq : Byte) (st : Status) (flags : Byte) (payload : List Byte) : List Byte :=
  let data := if st = .ok then payload else []
  let body := byteN (data.length + 5) :: seq :: st.code :: flags :: data
  body ++ [crc8 body]

/-- The length of a frame in bytes, and of its transaction in rising edges of SCK. -/
structure Span where
  frameLen : Nat
  clocks   : Nat

/-- R3: how many fill bytes pass as 00h before the marker, 0..39 (log 11). -/
def markerFill (n : Nat) : Nat := Config.markerDelay n % 40

/-- R3: the bytes that MISO sends from the beginning of a transaction that produces a response: 00h during the frame and until
the marker, the marker 5Ah, the response; every further byte is 00h. -/
def misoBytes (n frameLen : Nat) (response : List Byte) : List Byte :=
  List.replicate (frameLen + markerFill n) 0x00 ++ 0x5A :: response

/-- R1, R3: the level of MISO at each of some rising edges of SCK: those bytes, most significant bit first, then 00h. -/
def misoBits (clocks : Nat) (bytes : List Byte) : List Bool :=
  (List.range clocks).map fun i => (byteAt bytes (i / 8)).getMsbD (i % 8)

/-- R3: a run of 00h on MISO. -/
def misoZeros (clocks : Nat) : List Bool := List.replicate clocks false

/-- R3, R6: form a response; its flags are those of the state (R18). With nCS already high the host has clocked out none of it
(R2, log 24). -/
def respond (x : Span) (seq : Byte) (st : Status) (payload : List Byte) (replayed : Bool) (s : State) : State :=
  let r := responseFrame seq st (summaryFlags s replayed) payload
  (s.setPort { s.port with
    response := r
    miso := if s.pins.inputs.nCs then misoZeros x.clocks
      else misoBits x.clocks (misoBytes s.free x.frameLen r) }).useFree

/-- R3: a transaction that produces no response: MISO carries 00h throughout. -/
def noResponse (clocks : Nat) (s : State) : State :=
  s.setPort { s.port with response := [], miso := misoZeros clocks }

/-! ## Replies of the blocks -/

/-- What a block answers to a command: status, payload and the state with the command's effects. -/
structure Reply where
  status  : Status
  payload : List Byte
  state   : State

/-- R17: a command that fails changes nothing. -/
def fail (st : Status) (s : State) : Reply := { status := st, payload := [], state := s }

/-- A command that succeeds. -/
def done (payload : List Byte) (s : State) : Reply := { status := .ok, payload := payload, state := s }

/-- A command of the catalogue: the window that it opens when it succeeds (R19), and what its block does with its
parameter bytes. -/
structure Command where
  opens : Option WindowKind
  body  : List Byte → State → Reply

/-- A command that opens no window. -/
def plain (body : List Byte → State → Reply) : Command := { opens := none, body := body }

/-- A request command of Table 1-5a. -/
def request (k : WindowKind) (body : List Byte → State → Reply) : Command := { opens := some k, body := body }

/-- R21: whether the window of a completion's kind is open. -/
def windowOpen (k : WindowKind) (s : State) : Bool := (s.port.window.map Window.kind) == some k

/-! ## Outcomes -/

/-- R2, R198: a rising edge of nCS lets a pending soft reset take effect. -/
def nCsRises (s : State) : State := if s.sys.softPending then takeReset .soft s else s

/-- What an event that is no transaction finds at the input pins; if nCS is high, a soft reset still pending took effect
when it rose (R198, log 7). -/
def meetPins (pins : InPins) (s : State) : State := meetInputs pins (if pins.nCs then nCsRises s else s)

/-- R12, R13, R19 to R21: what the port does when a command has executed: the window closes, or a successful request opens
its own with the full lifetime; the cache takes the sequence byte and the reply. -/
def portAfter (opens : Option WindowKind) (seq : Byte) (r : Reply) (p : Port) : Port :=
  { p with
    window := if r.status = .ok then opens.map fun k => { kind := k, remaining := Config.windowLife } else none
    cache := some { seq := seq, status := r.status, payload := r.payload } }

/-- R198: a soft reset whose command completed with nCS already high takes effect at once (R2). -/
def softAtOnce (s : State) : State := if s.pins.inputs.nCs then nCsRises s else s

/-- R12, R18: the end of an executed command: the event ends, the port is updated, the response is formed. -/
def finish (opens : Option WindowKind) (x : Span) (seq : Byte) (r : Reply) : State :=
  let s := settle r.state
  softAtOnce (respond x seq r.status r.payload false (s.setPort (portAfter opens seq r s.port)))

/-- R11: whether a sequence byte is that of the replay cache. -/
def isReplay (seq : Byte) (s : State) : Bool := (s.port.cache.map CacheEntry.seq) == some seq

/-- R11: answer a replay from the cache. -/
def replay (x : Span) (s : State) : State :=
  match s.port.cache with
  | none => s
  | some e => respond x e.seq e.status e.payload true s

/-- R11, R12: an intact frame: a replay, or executed. -/
def serveIntact (cmd : Command) (x : Span) (seq : Byte) (params : List Byte) (s : State) : State :=
  if isReplay seq s then replay x s else finish cmd.opens x seq (cmd.body params s)

/-- R22: whether the port ignores a transaction: any until it is ready; then the one that was in progress when it became ready. -/
def ignores (fresh : Bool) (s : State) : Bool := s.sys.phase != .ready || (s.port.ignoring && !fresh)

/-- R22: a transaction that began after the port became ready: the one that was in progress has ended. -/
def stopIgnoring (s : State) : State := s.setPort { s.port with ignoring := false }

/-- R22: one transaction. nCS fell at its beginning, so it was high since the transaction before; a soft reset still pending has
taken effect (R198, log 7). Then the input pins are as this event meets them; the port serves the transaction, or ignores it and
answers every byte with 00h. -/
def whenReady (clocks : Nat) (fresh : Bool) (pins : InPins) (serve : State → State) (s : State) : State :=
  let s := nCsRises s
  if ignores fresh s then noResponse clocks (meetInputs pins s) else serve (meetInputs pins (stopIgnoring s))

/-- R5: the span of a command's frame and its transaction. -/
def frameSpan (f : Frame) : Span := { frameLen := f.params.length + 4, clocks := 8 * (f.params.length + 4) + f.fill }

/-- One transaction that carries the frame of a command. -/
def serveCommand (cmd : Command) (f : Frame) (s : State) : State :=
  whenReady (frameSpan f).clocks f.fresh f.pins (serveIntact cmd (frameSpan f) f.seq f.params) s

/-- R14: count a transaction that the port could not evaluate. -/
def countError (s : State) : State := s.setPort { s.port with errors := satInc s.port.errors }

/-- R20: close the window. -/
def closeWindow (s : State) : State := s.setPort { s.port with window := none }

/-- R8: an aborted frame. -/
def abortFrame (clocks : Nat) (s : State) : State := noResponse clocks (closeWindow (countError s))

/-- R9: a length byte outside 4..28; it counts as an evaluated command with the status ERR_FORMAT. -/
def refuseLength (x : Span) (seq : Byte) (s : State) : State := finish none x seq (fail .format s)

/-- R10: a wrong check byte; answered, counted, not cached. -/
def refuseCheck (x : Span) (seq : Byte) (s : State) : State :=
  respond x seq .check [] false (closeWindow (countError s))

/-- R12: an unknown command code is answered ERR_FORMAT as an executed command. -/
def unknownCode : Command := plain fun _ s => fail .format s

end Sys2Proof.Machine
end

