-- ==== Sys2Proof/Machine/ChanCommands.lean ====
section
/-! DEFINITION. The commands of group CHAN (R50, R51, R52, R54). -/

namespace Sys2Proof.Machine

/-- R50, byte 1. -/
def Drive.ofCode (b : Byte) : Option Drive :=
  if b = 0 then some .pushPull else if b = 1 then some .openDrain else none

/-- A yes/no parameter: 00h no, 01h yes (R50, byte 3). -/
def boolOfCode (b : Byte) : Option Bool := if b = 0 then some false else if b = 1 then some true else none

/-- R50. -/
def cmdChanSetup (params : List Byte) (s : State) : Reply :=
  match params with
  | [b0, b1, b2, b3] =>
    if h : b0.toNat < 16 then
      match Drive.ofCode b1, Level.ofCode b2, boolOfCode b3 with
      | some drive, some safe, some owned =>
        let ch := s.chans[b0.toNat]
        if owned ≠ ch.owned ∧ s.stand.state ≠ .host then fail .state s
        else if ch.shut || (standinMask s).getLsbD b0.toNat then fail .locked s
        else done [] (s.setChans (s.chans.set b0.toNat { ch with drive := drive, safe := safe, owned := owned } h))
      | _, _, _ => fail .param s
    else fail .param s
  | _ => fail .format s

/-- R51: seal the channels of a mask. -/
def sealMask (m : Half) (chans : Vector Channel 16) : Vector Channel 16 :=
  Vector.ofFn fun i => if m.getLsbD i.val then { chans[i] with shut := true } else chans[i]

/-- R51. -/
def cmdChanSeal (params : List Byte) (s : State) : Reply :=
  match params with
  | [h, l] =>
    if h ++ l = (0 : Half) then fail .param s
    else
      let s := s.setChans (sealMask (h ++ l) s.chans)
      done (be16 (maskOf Channel.shut s.chans)) s
  | _ => fail .format s

/-- R52. -/
def cmdChanForce (params : List Byte) (s : State) : Reply :=
  match params with
  | [h, l, k] =>
    let m : Half := h ++ l
    match LevelKind.ofCode k with
    | none => fail .param s
    | some kind =>
      if m = 0 then fail .param s
      else if m &&& (maskOf Channel.shut s.chans ||| standinMask s) ≠ 0 then fail .locked s
      else done (be16 (m &&& pendingMask s)) (driveAndCut m kind none s)
  | _ => fail .format s

/-- R54: sixteen two-bit level codes, channel 15 first. -/
def levelBytes (level : Channel → Level) (chans : Vector Channel 16) : List Byte :=
  be32 (BitVec.ofNat 32 ((List.finRange 16).foldl (fun n i => n + (level chans[i]).code * 4 ^ i.val) 0))

/-- R54, Table 3-2. -/
def cmdChanRead (params : List Byte) (s : State) : Reply :=
  match params with
  | [] =>
    done (levelBytes Channel.level s.chans ++ be16 (standinMask s) ++ be16 (maskOf Channel.shut s.chans) ++
      be16 (maskOf Channel.owned s.chans) ++ levelBytes Channel.safe s.chans ++
      be16 (maskOf (fun ch => ch.drive == .openDrain) s.chans)) s
  | _ :: _ => fail .format s

/-- CHAN_SETUP (R50). -/
def execChanSetup (f : Frame) (s : State) : Host.Outcome State Fault Refusal :=
  .next (serveCommand (plain cmdChanSetup) f s)

/-- CHAN_FORCE (R52). -/
def execChanForce (f : Frame) (s : State) : Host.Outcome State Fault Refusal :=
  .next (serveCommand (plain cmdChanForce) f s)

/-- CHAN_SEAL (R51). -/
def execChanSeal (f : Frame) (s : State) : Host.Outcome State Fault Refusal :=
  .next (serveCommand (plain cmdChanSeal) f s)

/-- CHAN_READ (R54). -/
def execChanRead (f : Frame) (s : State) : Host.Outcome State Fault Refusal :=
  .next (serveCommand (plain cmdChanRead) f s)

end Sys2Proof.Machine
end

