-- ==== Sys2Proof/Machine/CueOps.lean ====
section
/-! DEFINITION. The cue table's own operations (chapters 4 and 5): keys and placement (R68, R69), freeing (R58), the end of a
series and the completion of an occurrence (R87, R88, R89), and the late rule (R106 to R110). -/

namespace Sys2Proof.Machine

/-! ## Tick classes -/

/-- The three classes of R32. -/
inductive DueClass where
  | late | acceptable | beyond
  deriving DecidableEq, Repr

/-- R32: the distance from the tick count to a due tick, modulo 2^32. -/
def distance (now due : Tick) : Nat := (due - now).toNat

/-- R32. -/
def dueClass (now due : Tick) : DueClass :=
  if distance now due = 0 then .late
  else if distance now due ≤ Config.horizon then .acceptable
  else if distance now due < 2 ^ 31 then .beyond
  else .late

/-! ## Reading a cue -/

/-- R68: the key tick of an entry of the due list. -/
def Cue.key (c : Cue) : Option Tick :=
  match c.wait with
  | .armed due _ _ => some due
  | .inPulse trail _ _ _ => some trail
  | .hooked => none

/-- R67: the scheduled tick; none while HOOKED. -/
def Cue.sched (c : Cue) : Option Tick :=
  match c.wait with
  | .armed _ sched _ => some sched
  | .inPulse _ sched _ _ => some sched
  | .hooked => none

/-- R68. -/
def Cue.overdue (c : Cue) : Bool :=
  match c.wait with
  | .armed _ _ overdue => overdue
  | .inPulse _ _ _ _ => false
  | .hooked => false

/-- R56: occurrences 0 means unlimited. -/
def Cue.limited (c : Cue) : Bool := c.occurrences != 0

/-- Whether a cue waits for an edge (Table 4-1). -/
def Cue.isHook (c : Cue) : Bool :=
  match c.trigger with
  | .atTime _ => false
  | .hook _ _ _ => true

/-- R64: the level kind of the leading action; NOTIFY writes none. -/
def Action.leading : Action → Option LevelKind
  | .driveHigh => some .high
  | .driveLow => some .low
  | .flt => some .flt
  | .toggle => some .toggle
  | .pulseHigh => some .high
  | .pulseLow => some .low
  | .notify => none

/-- R64: the level kind of the trailing edge; only pulses have one. -/
def Action.trailing : Action → Option LevelKind
  | .pulseHigh => some .low
  | .pulseLow => some .high
  | .driveHigh => none
  | .driveLow => none
  | .flt => none
  | .toggle => none
  | .notify => none

/-- R64: whether the action is a pulse. -/
def Action.pulse (a : Action) : Bool := a.trailing.isSome

/-! ## The due list -/

/-- R69: whether an entry stands ahead of a cue placed with key tick K and priority P. -/
def standsAhead (s : State) (K : Tick) (P : Fin 4) (m : Fin 48) : Bool :=
  match s.cueAt m with
  | none => true
  | some d =>
    match d.key with
    | none => true
    | some k =>
      d.overdue || decide (distance s.time.tick k < distance s.time.tick K) || (k == K && decide (d.priority ≤ P))

/-- R71: take a slot out of the due list; the others keep their order. -/
def unlist (n : Fin 48) (s : State) : State :=
  s.setCues { s.cues with due := s.cues.due.filter fun m => m != n }

/-- R69: place the cue of a slot by its key tick and priority, last among equals. -/
def place (n : Fin 48) (s : State) : State :=
  match s.cueAt n with
  | none => s
  | some c =>
    match c.key with
    | none => s
    | some K =>
      let s := unlist n s
      let ahead := standsAhead s K c.priority
      s.setCues { s.cues with due := s.cues.due.takeWhile ahead ++ n :: s.cues.due.dropWhile ahead }

/-- R58: free a slot: out of its collection, the cue discarded, the generation advanced. -/
def freeSlot (n : Fin 48) (s : State) : State :=
  let s := unlist n s
  s.setCues { s.cues with
    slots := s.cues.slots.set n.val { gen := s.cues.slots[n].gen + 1, cue := none } n.isLt }

/-- R61: the FREE slot with the lowest number. -/
def lowestFree (s : State) : Option (Fin 48) :=
  (List.finRange 48).find? fun n => (s.cueAt n).isNone

/-! ## Series -/

/-- R89: the series of a slot's cue ends with a cause (00h used up, 01h abandoned, 02h missed): SERIES_END if flagged, then
back to the hook set under REARM, or freed. -/
def endSeries (n : Fin 48) (cause : Nat) (s : State) : State :=
  match s.cueAt n with
  | none => s
  | some c =>
    let returns := c.isHook && c.rearm
    let s := if c.notifyEnd then
        raise .seriesEnd (handleOf s n) c.tag (halfN (256 * returns.toNat + cause)) s
      else s
    if returns then
      (unlist n s).setCue n { c with wait := .hooked, remaining := c.occurrences, begun := false }
    else freeSlot n s

/-- R88: advance the scheduled tick by one period and place the cue there. -/
def reschedule (n : Fin 48) (s : State) : State :=
  match s.cueAt n with
  | none => s
  | some c =>
    match c.sched with
    | none => s
    | some old =>
      let next := old + c.period
      place n (s.setCue n { c with wait := .armed next next false })

/-- R87: an occurrence has been completed or skipped. -/
def completeOccurrence (n : Fin 48) (s : State) : State :=
  match s.cueAt n with
  | none => s
  | some c =>
    if c.limited then
      let left := c.remaining - 1
      let s := s.setCue n { c with begun := true, remaining := left }
      if left = 0 then endSeries n 0 s else reschedule n s
    else reschedule n (s.setCue n { c with begun := true })

/-! ## The late rule -/

/-- R106: the cutoff tick. -/
def lateCutoff (c : Cue) (now : Tick) : Tick :=
  match c.late with
  | .skip => now
  | .fire => if c.action.pulse then now + 1 + c.width.setWidth 32 else now + 1

/-- R106, R110: the number of consumed occurrences. -/
def lateCount (c : Cue) (sched now : Tick) (saturated : Bool) : Nat :=
  if saturated && c.limited then c.remaining.toNat
  else if c.occurrences = 1 then 1
  else
    let grid := (lateCutoff c now - sched).toNat / c.period.toNat + 1
    if c.limited then min grid c.remaining.toNat else grid

/-- R109: count the missed occurrences of a cue and raise its MISSED notice if there are any. -/
def missOccurrences (n : Fin 48) (c : Cue) (missed : Nat) (s : State) : State :=
  if missed = 0 then s
  else
    let s := s.setCues { s.cues with missed := s.cues.missed + BitVec.ofNat 32 missed }
    raise .missed (handleOf s n) c.tag (satHalf missed) s

/-- What the late rule answers to the command that applies it: how many occurrences it missed, and whether the series
ended. -/
structure LateResult where
  state  : State
  missed : Nat
  ended  : Bool

/-- R107: the late rule under LATE_FIRE; the last consumed occurrence fires late at the tick after the tick count. -/
def lateFire (n : Fin 48) (c : Cue) (sched : Tick) (saturated : Bool) (s : State) : LateResult :=
  let now := s.time.tick
  let missed := lateCount c sched now saturated - 1
  let stands := if saturated && c.limited then now + 1 else sched + BitVec.ofNat 32 missed * c.period
  let left := if c.limited then c.remaining - halfN missed else c.remaining
  let s := s.setCue n
    { c with wait := .armed (now + 1) stands false, begun := c.begun || missed != 0, remaining := left }
  { state := place n (missOccurrences n c missed s), missed := missed, ended := false }

/-- R108: the late rule under LATE_SKIP; every consumed occurrence is missed. -/
def lateSkip (n : Fin 48) (c : Cue) (sched : Tick) (saturated : Bool) (s : State) : LateResult :=
  let missed := lateCount c sched s.time.tick saturated
  let left := if c.limited then c.remaining - halfN missed else c.remaining
  let next := sched + BitVec.ofNat 32 missed * c.period
  let s := missOccurrences n c missed
    (s.setCue n { c with wait := .armed next next false, begun := true, remaining := left })
  if c.limited && left == 0 then { state := endSeries n 2 s, missed := missed, ended := true }
  else { state := place n s, missed := missed, ended := false }

/-- R106 to R110: the late rule on the ARMED cue of a slot; `saturated` is R110's case. -/
def lateRule (n : Fin 48) (saturated : Bool) (s : State) : LateResult :=
  match s.cueAt n with
  | none => { state := s, missed := 0, ended := false }
  | some c =>
    match c.wait with
    | .armed _ sched _ =>
      match c.late with
      | .fire => lateFire n c sched saturated s
      | .skip => lateSkip n c sched saturated s
    | .inPulse _ _ _ _ => { state := s, missed := 0, ended := false }
    | .hooked => { state := s, missed := 0, ended := false }

end Sys2Proof.Machine
end

