-- ==== Sys2Proof/Machine/Operands.lean ====
section
/-! DEFINITION. The operand forms of the cue commands: handles (R60) and the cue record of CUE.ADD (R62 to R66), with the bytes by
which CUE.QUERY gives the record back (R80). -/

namespace Sys2Proof.Machine

/-! ## Handles -/

/-- What a handle names (R60). -/
inductive Named where
  | invalid
  | stale
  | live (slot : Fin 48) (cue : Cue)
  deriving DecidableEq, Repr

/-- R60: the slot is the handle divided by 1024, the generation the remainder. -/
def resolveHandle (h : Half) (s : State) : Named :=
  if hlt : h.toNat / 1024 < 48 then
    let n : Fin 48 := ⟨h.toNat / 1024, hlt⟩
    match s.cueAt n with
    | none => .stale
    | some c => if s.cues.slots[n].gen.toNat = h.toNat % 1024 then .live n c else .stale
  else .invalid

/-! ## The cue record -/

/-- R63: the trigger data; the due tick of AT_TIME, or a line of 0..7, an edge of 00h..02h and a delay. -/
def parseTrigger (p : List Byte) : Option Trigger :=
  if (byteAt p 0).getLsbD 7 then
    if h : (byteAt p 1).toNat < 8 then
      (HookEdge.ofCode (byteAt p 2)).map fun e => .hook ⟨(byteAt p 1).toNat, h⟩ e (halfAt p 3)
    else none
  else some (.atTime (wordAt p 1))

/-- R66: the guard byte. -/
def parseGuard (b : Byte) : Option (Option Guard) :=
  if b.getLsbD 7 then
    if b &&& 0x03 = 0 then
      some (some
        { line := Fin.ofNat 8 (b.extractLsb' 4 3).toNat, high := b.getLsbD 3,
          policy := if b.getLsbD 2 then .abandon else .skip })
    else none
  else if b = 0 then some none
  else none

/-- R63: RETRIGGER and REARM are for HOOK cues only. -/
def controlOk (c : Byte) : Bool := c.getLsbD 7 || (!c.getLsbD 4 && !c.getLsbD 3)

/-- R64: the channel mask and the width suit the action. -/
def actionOk (a : Action) (mask : Half) (width : BitVec 24) : Bool :=
  (if a == .notify then mask == 0 else mask != 0) && (!a.pulse || width != 0)

/-- R65: the period suits the occurrences and, for a pulse, the width. -/
def periodOk (a : Action) (width : BitVec 24) (occurrences : Half) (period : Tick) : Bool :=
  occurrences == 1 ||
    (decide (2 ≤ period.toNat) && decide (period.toNat ≤ 16777216) &&
      (!a.pulse || decide (width.toNat < period.toNat)))

/-- R62 to R66: the cue that twenty parameter bytes describe, not yet in a slot: HOOKED, or ARMED at its due tick. The width
is kept for pulses only (R64, log 15). No value for a violation of R63 to R66. -/
def parseCue (p : List Byte) : Option Cue :=
  let c := byteAt p 0
  match parseTrigger p, Action.ofCode (byteAt p 7), parseGuard (byteAt p 17) with
  | some trigger, some action, some guard =>
    let mask := halfAt p 5
    let width := triAt p 8
    let occurrences := halfAt p 11
    let period := wordAt p 13
    if controlOk c && actionOk action mask width && periodOk action width occurrences period then
      some
        { trigger := trigger
          late := if c.getLsbD 0 then .skip else .fire
          notifyFire := c.getLsbD 1
          notifyEnd := c.getLsbD 2
          retrigger := c.getLsbD 3
          rearm := c.getLsbD 4
          mask := mask
          action := action
          width := if action.pulse then width else 0
          occurrences := occurrences
          period := period
          guard := guard
          priority := Fin.ofNat 4 (c.extractLsb' 5 2).toNat
          tag := halfAt p 18
          wait := match trigger with
            | .atTime due => .armed due due false
            | .hook _ _ _ => .hooked
          remaining := occurrences
          begun := false
          fired := 0 }
    else none
  | _, _, _ => none

/-- R80: the control byte as given to CUE.ADD (Table 4-3). -/
def Cue.controlByte (c : Cue) : Byte :=
  packBits [c.isHook, c.priority.val.testBit 1, c.priority.val.testBit 0, c.rearm, c.retrigger, c.notifyEnd,
    c.notifyFire, c.late == .skip]

/-- R80: the guard byte as given to CUE.ADD (Table 4-3). -/
def Cue.guardByte (c : Cue) : Byte :=
  match c.guard with
  | none => 0
  | some g =>
    packBits [true, g.line.val.testBit 2, g.line.val.testBit 1, g.line.val.testBit 0, g.high, g.policy == .abandon,
      false, false]

end Sys2Proof.Machine
end

