-- ==== Sys2Proof/Machine/CueCommands.lean ====
section
/-! DEFINITION. The commands of group CUE (R73 to R83, R104, R105). -/

namespace Sys2Proof.Machine

/-! ## CUE.ADD and CUE.AMEND -/

/-- R75: the nine-byte payload of CUE.ADD and CUE.AMEND for the cue of a slot. -/
def cuePayload (n : Fin 48) (missed : Nat) (s : State) : List Byte :=
  match s.cueAt n with
  | none => be16 (handleOf s n) ++ [0] ++ be32 0 ++ be16 0
  | some c =>
    let next : Tick := match c.wait with
      | .armed due _ _ => due
      | .inPulse trail _ _ _ => trail
      | .hooked => 0
    be16 (handleOf s n) ++ [c.wait.code] ++ be32 next ++ be16 (satHalf missed)

/-- R73, R75: a cue has been created or amended. -/
def cueDone (n : Fin 48) (missed : Nat) (s : State) : Reply := done (cuePayload n missed s) s

/-- R74, R79: put an AT_TIME cue in a slot at a due tick of a class that is accepted. -/
def settleDue (n : Fin 48) (c : Cue) (due : Tick) (cls : DueClass) (s : State) : Reply :=
  let s := s.setCue n { c with trigger := .atTime due, wait := .armed due due false }
  match cls with
  | .late =>
    let r := lateRule n false s
    cueDone n r.missed r.state
  | .acceptable => cueDone n 0 (place n s)
  | .beyond => cueDone n 0 (place n s)

/-- R73, R74: add a validated cue. -/
def addCue (c : Cue) (s : State) : Reply :=
  match c.trigger with
  | .hook _ _ _ =>
    match lowestFree s with
    | none => fail .full s
    | some n => cueDone n 0 (s.setCue n c)
  | .atTime due =>
    let cls := dueClass s.time.tick due
    if cls = .beyond then fail .horizon s
    else if cls = .late ∧ c.late = .skip then fail .late s
    else
      match lowestFree s with
      | none => fail .full s
      | some n => settleDue n c due cls s

/-- R62, R73. -/
def cmdCueAdd (params : List Byte) (s : State) : Reply :=
  if params.length ≠ 20 then fail .format s
  else
    match parseCue params with
    | none => fail .param s
    | some c => addCue c s

/-- R79: whether a live cue may be amended: AT_TIME, ARMED, its series not begun. -/
def amendable (c : Cue) : Bool :=
  !c.isHook && !c.begun &&
    match c.wait with
    | .armed _ _ _ => true
    | .inPulse _ _ _ _ => false
    | .hooked => false

/-- R79. -/
def cmdCueAmend (params : List Byte) (s : State) : Reply :=
  if params.length ≠ 6 then fail .format s
  else
    match resolveHandle (halfAt params 0) s with
    | .invalid => fail .param s
    | .stale => fail .stale s
    | .live n c =>
      let due := wordAt params 2
      let cls := dueClass s.time.tick due
      if !amendable c then fail .state s
      else if cls = .beyond then fail .horizon s
      else if cls = .late ∧ c.late = .skip then fail .late s
      else settleDue n c due cls s

/-! ## Cancelling -/

/-- The modes of R76. -/
inductive CancelMode where
  | now | after
  deriving DecidableEq, Repr

/-- R76, byte 2. -/
def CancelMode.ofCode (b : Byte) : Option CancelMode :=
  if b = 0 then some .now else if b = 1 then some .after else none

/-- R76, R77: cancel the cue of a slot; whether it is ending rather than freed, and the state. -/
def cancelSlot (m : CancelMode) (n : Fin 48) (s : State) : Bool × State :=
  match m, s.cueAt n with
  | _, none => (false, s)
  | .now, some _ => (false, freeSlot n s)
  | .after, some c =>
    match c.wait with
    | .armed _ _ _ => (false, freeSlot n s)
    | .hooked => (false, freeSlot n s)
    | .inPulse trail sched mask _ => (true, s.setCue n { c with wait := .inPulse trail sched mask true })

/-- R76, R77. -/
def cmdCueCancel (params : List Byte) (s : State) : Reply :=
  match params with
  | [h, l, mode] =>
    match CancelMode.ofCode mode, resolveHandle (h ++ l) s with
    | none, _ => fail .param s
    | some _, .invalid => fail .param s
    | some _, .stale => fail .stale s
    | some m, .live n _ =>
      let r := cancelSlot m n s
      done [byteB r.1] r.2
  | _ => fail .format s

/-- R78: the slots that a purge selects, in ascending order. -/
def purgeSlots (mask : Half) (all : Bool) (s : State) : List (Fin 48) :=
  (List.finRange 48).filter fun n =>
    match s.cueAt n with
    | none => false
    | some c => all || c.mask &&& mask != 0

/-- R78: cancel one selected cue, counting those freed and those ending. -/
def purgeOne (m : CancelMode) (acc : Nat × Nat × State) (n : Fin 48) : Nat × Nat × State :=
  let r := cancelSlot m n acc.2.2
  if r.1 then (acc.1, acc.2.1 + 1, r.2) else (acc.1 + 1, acc.2.1, r.2)

/-- R78. -/
def cmdCuePurge (params : List Byte) (s : State) : Reply :=
  match params with
  | [h, l, mode, all] =>
    match CancelMode.ofCode mode with
    | none => fail .param s
    | some m =>
      if 1 < all.toNat then fail .param s
      else if all = 0 ∧ h ++ l = (0 : Half) then fail .param s
      else
        let r := (purgeSlots (h ++ l) (all == 1) s).foldl (purgeOne m) (0, 0, s)
        done [byteN r.1, byteN r.2.1] r.2.2
  | _ => fail .format s

/-! ## Freeze and thaw -/

/-- R104. -/
def cmdCueFreeze (params : List Byte) (s : State) : Reply :=
  match params with
  | [] =>
    if s.cues.frozen then fail .state s
    else done [] (s.setCues { s.cues with frozen := true, frozenDur := 0 })
  | _ :: _ => fail .format s

/-- What a thaw has done so far: cues handled, series ended, occurrences missed (R105). -/
structure ThawTally where
  handled : Nat
  ended   : Nat
  missed  : Nat
  state   : State

/-- R105 step 3: the late rule on one overdue cue. -/
def thawOne (saturated : Bool) (t : ThawTally) (n : Fin 48) : ThawTally :=
  let r := lateRule n saturated t.state
  { handled := t.handled + 1, ended := t.ended + r.ended.toNat, missed := t.missed + r.missed, state := r.state }

/-- R105: the overdue cues in due-list order. -/
def overdueSlots (s : State) : List (Fin 48) :=
  s.cues.due.filter fun n => ((s.cueAt n).map Cue.overdue).getD false

/-- R105: the table ceases to be frozen, and the late rule is applied to each overdue cue. -/
def thaw (s : State) : ThawTally :=
  let saturated := decide (Config.frozenMax ≤ s.cues.frozenDur)
  (overdueSlots s).foldl (thawOne saturated)
    { handled := 0, ended := 0, missed := 0, state := s.setCues { s.cues with frozen := false } }

/-- R105. -/
def cmdCueThaw (params : List Byte) (s : State) : Reply :=
  match params with
  | [] =>
    if !s.cues.frozen then fail .state s
    else
      let t := thaw s
      done (be32 (BitVec.ofNat 32 s.cues.frozenDur) ++ [byteN t.handled, byteN t.ended] ++ be16 (satHalf t.missed))
        t.state
  | _ :: _ => fail .format s

/-! ## Reading -/

/-- R80: the remaining occurrences as reported. -/
def Cue.reportedRemaining (c : Cue) : Half := if c.limited then c.remaining else 0

/-- R80: the pending trailing mask as reported. -/
def Cue.pending (c : Cue) : Half :=
  match c.wait with
  | .armed _ _ _ => 0
  | .inPulse _ _ mask _ => mask
  | .hooked => 0

/-- R80, byte 26, bit 1. -/
def Cue.ending (c : Cue) : Bool :=
  match c.wait with
  | .armed _ _ _ => false
  | .inPulse _ _ _ ending => ending
  | .hooked => false

/-- Table 4-5. -/
def queryPayload (h : Half) (c : Cue) : List Byte :=
  be16 h ++ [c.wait.code, c.controlByte, c.action.code, c.guardByte] ++ be16 c.mask ++ be16 c.pending ++
    be32 (c.key.getD 0) ++ be32 (c.sched.getD 0) ++ be16 c.reportedRemaining ++ be16 c.tag ++ be32 c.fired ++
    [packBits [c.overdue, c.ending, c.begun]]

/-- R80. -/
def cmdCueQuery (params : List Byte) (s : State) : Reply :=
  match params with
  | [h, l] =>
    match resolveHandle (h ++ l) s with
    | .invalid => fail .param s
    | .stale => fail .stale s
    | .live n c => done (queryPayload (handleOf s n) c) s
  | _ => fail .format s

/-- R81, R82: the reply of a list command: the number of entries, and up to 12 handles from a position. -/
def listReply (slots : List (Fin 48)) (pos : Nat) (s : State) : Reply :=
  let part := (slots.drop pos).take 12
  done ([byteN slots.length, byteN part.length] ++ part.flatMap fun n => be16 (handleOf s n)) s

/-- R72: the hook set in ascending slot order. -/
def hookSlots (s : State) : List (Fin 48) :=
  (List.finRange 48).filter fun n => (s.cueAt n).map Cue.wait == some .hooked

/-- R81. -/
def cmdCueList (params : List Byte) (s : State) : Reply :=
  match params with
  | [b] => if 47 < b.toNat then fail .param s else listReply s.cues.due b.toNat s
  | _ => fail .format s

/-- R82. -/
def cmdCueHooks (params : List Byte) (s : State) : Reply :=
  match params with
  | [b] => if 47 < b.toNat then fail .param s else listReply (hookSlots s) b.toNat s
  | _ => fail .format s

/-- R83: the number of slots in a slot state, by its code. -/
def countWait (code : Byte) (s : State) : Nat :=
  (List.finRange 48).countP fun n => ((s.cueAt n).map fun c => c.wait.code) == some code

/-- R83. -/
def cmdCueStatus (params : List Byte) (s : State) : Reply :=
  match params with
  | [] =>
    let t := s.cues
    done ([byteN (countWait 0x01 s), byteN (countWait 0x02 s), byteN (countWait 0x03 s), byteB t.frozen] ++
      be32 t.fired ++ be32 t.missed ++ be32 t.skipped ++ be32 t.masked ++ be32 t.cut ++ be32 t.conflicts) s
  | _ :: _ => fail .format s

/-- CUE_ADD (R73). -/
def execCueAdd (f : Frame) (s : State) : Host.Outcome State Fault Refusal :=
  .next (serveCommand (plain cmdCueAdd) f s)

/-- CUE_CANCEL (R76). -/
def execCueCancel (f : Frame) (s : State) : Host.Outcome State Fault Refusal :=
  .next (serveCommand (plain cmdCueCancel) f s)

/-- CUE_AMEND (R79). -/
def execCueAmend (f : Frame) (s : State) : Host.Outcome State Fault Refusal :=
  .next (serveCommand (plain cmdCueAmend) f s)

/-- CUE_QUERY (R80). -/
def execCueQuery (f : Frame) (s : State) : Host.Outcome State Fault Refusal :=
  .next (serveCommand (plain cmdCueQuery) f s)

/-- CUE_LIST (R81). -/
def execCueList (f : Frame) (s : State) : Host.Outcome State Fault Refusal :=
  .next (serveCommand (plain cmdCueList) f s)

/-- CUE_HOOKS (R82). -/
def execCueHooks (f : Frame) (s : State) : Host.Outcome State Fault Refusal :=
  .next (serveCommand (plain cmdCueHooks) f s)

/-- CUE_PURGE (R78). -/
def execCuePurge (f : Frame) (s : State) : Host.Outcome State Fault Refusal :=
  .next (serveCommand (plain cmdCuePurge) f s)

/-- CUE_FREEZE (R104). -/
def execCueFreeze (f : Frame) (s : State) : Host.Outcome State Fault Refusal :=
  .next (serveCommand (plain cmdCueFreeze) f s)

/-- CUE_THAW (R105). -/
def execCueThaw (f : Frame) (s : State) : Host.Outcome State Fault Refusal :=
  .next (serveCommand (plain cmdCueThaw) f s)

/-- CUE_STATUS (R83). -/
def execCueStatus (f : Frame) (s : State) : Host.Outcome State Fault Refusal :=
  .next (serveCommand (plain cmdCueStatus) f s)

end Sys2Proof.Machine
end

