-- ==== Sys2Proof/Machine/Firing.lean ====
section
/-! DEFINITION. The cue stage of a tick (chapter 5): trailing edges (R86), guards (R91 to R93), leading actions (R94 to R97),
conflicts (R98), and the hook set's answer to a qualified edge (R102, R103). -/

namespace Sys2Proof.Machine

/-! ## Masked writes -/

/-- R97, R170: count the channel writes of a cue that were masked. -/
def countMasked (m : Half) (s : State) : State :=
  let n := BitVec.ofNat 32 (maskCount m)
  (s.setCues { s.cues with masked := s.cues.masked + n }).setStand { s.stand with masked := s.stand.masked + n }

/-! ## Trailing edges -/

/-- R85: whether the cue of a slot is a pulse whose trailing tick is the tick being processed. -/
def trailingDue (s : State) (n : Fin 48) : Bool :=
  match (s.cueAt n).map Cue.wait with
  | some (.inPulse trail _ _ _) => trail == s.time.tick
  | _ => false

/-- R86: the trailing edge of a slot's pulse; it does not cut (R48). -/
def trailingEdge (n : Fin 48) (s : State) : State :=
  match s.cueAt n with
  | none => s
  | some c =>
    match c.wait with
    | .armed _ _ _ => s
    | .hooked => s
    | .inPulse trail sched mask ending =>
      let kind := c.action.trailing.getD .low
      let st := standinMask s
      let s := countMasked (mask &&& st) (s.setChans (writeMask (mask &&& ~~~st) kind s.chans))
      let s := s.setCue n { c with wait := .inPulse trail sched 0 ending }
      if ending then freeSlot n s else completeOccurrence n s

/-! ## Leading actions -/

/-- R85: whether the cue of a slot is ARMED with the tick being processed as its key, not overdue, the table not frozen. -/
def leadingDue (s : State) (n : Fin 48) : Bool :=
  match (s.cueAt n).map Cue.wait with
  | some (.armed due _ overdue) => due == s.time.tick && !overdue && !s.cues.frozen
  | _ => false

/-- R91: whether a guard passes; UNSETTLED equals neither level. -/
def guardPasses (g : Option Guard) (s : State) : Bool :=
  match g with
  | none => true
  | some g =>
    match s.edges.lines[g.line].filtered with
    | .low => !g.high
    | .high => g.high
    | .unsettled => false

/-- R98: the channels that the leading actions of a tick have driven to each level. -/
structure Led where
  low  : Half
  high : Half
  flt  : Half
  deriving DecidableEq, Repr

/-- Before the second pass no channel has been led. -/
def Led.start : Led := { low := 0, high := 0, flt := 0 }

/-- R98: add the channels one leading action drove, by the levels they now hold. -/
def Led.add (l : Led) (driven : Half) (chans : Vector Channel 16) : Led :=
  { low := l.low ||| (driven &&& maskOf (fun ch => ch.level == .low) chans)
    high := l.high ||| (driven &&& maskOf (fun ch => ch.level == .high) chans)
    flt := l.flt ||| (driven &&& maskOf (fun ch => ch.level == .flt) chans) }

/-- R98: the conflict channels: driven to two levels or more. -/
def Led.conflict (l : Led) : Half := (l.low &&& l.high) ||| (l.low &&& l.flt) ||| (l.high &&& l.flt)

/-- R94 to R96: the fired count and the fired total rise, and FIRED is raised if asked. -/
def countFired (n : Fin 48) (c : Cue) (notify : Bool) (s : State) : State :=
  let fired := c.fired + 1
  let s := s.setCues { s.cues with fired := s.cues.fired + 1 }
  if notify then raise .fired (handleOf s n) c.tag (fired.setWidth 16) s else s

/-- R92: an occurrence consumed by a failed SKIP guard. -/
def skipOccurrence (n : Fin 48) (c : Cue) (s : State) : State :=
  let left : Half := if c.limited then c.remaining - 1 else 0
  let s := s.setCues { s.cues with skipped := s.cues.skipped + 1 }
  let s := if c.notifyFire then raise .skipped (handleOf s n) c.tag left s else s
  completeOccurrence n s

/-- R94 to R97: a leading action whose guard has passed; `led` gathers what R98 compares. -/
def fireAction (n : Fin 48) (c : Cue) (s : State) (led : Led) : State × Led :=
  match c.action.leading with
  | none =>
    let s := countFired n c true (s.setCue n { c with fired := c.fired + 1 })
    (completeOccurrence n s, led)
  | some kind =>
    let st := standinMask s
    let driven := c.mask &&& ~~~st
    let s := countMasked (c.mask &&& st) (driveAndCut driven kind (some n) s)
    let led := led.add driven s.chans
    if c.action.pulse then
      let trail := s.time.tick + c.width.setWidth 32
      let sched := c.sched.getD s.time.tick
      let s := place n (s.setCue n { c with wait := .inPulse trail sched driven false, fired := c.fired + 1 })
      (countFired n c c.notifyFire s, led)
    else
      let s := countFired n c c.notifyFire (s.setCue n { c with fired := c.fired + 1 })
      (completeOccurrence n s, led)

/-- R90 to R96: the leading action of a slot's due cue. -/
def leadingAction (n : Fin 48) (p : State × Led) : State × Led :=
  match p.1.cueAt n with
  | none => p
  | some c =>
    if guardPasses c.guard p.1 then fireAction n c p.1 p.2
    else
      match c.guard.map Guard.policy with
      | some .abandon => (endSeries n 1 p.1, p.2)
      | _ => (skipOccurrence n c p.1, p.2)

/-! ## Overdue cues -/

/-- R85, R68: whether the cue of a slot becomes overdue in this tick. -/
def overdueDue (s : State) (n : Fin 48) : Bool :=
  match (s.cueAt n).map Cue.wait with
  | some (.armed due _ overdue) => due == s.time.tick && !overdue && s.cues.frozen
  | _ => false

/-- R68: the cue of a slot becomes overdue and keeps its position. -/
def markOverdue (n : Fin 48) (s : State) : State :=
  match s.cueAt n with
  | none => s
  | some c =>
    match c.wait with
    | .armed due sched _ => s.setCue n { c with wait := .armed due sched true }
    | .inPulse _ _ _ _ => s
    | .hooked => s

/-! ## The stage -/

/-- R98: after the second pass, count and report a tick with conflict channels. -/
def reportConflict (led : Led) (s : State) : State :=
  if led.conflict = 0 then s
  else raise .conflict 0 0 led.conflict (s.setCues { s.cues with conflicts := s.cues.conflicts + 1 })

/-- R85 to R98: stage 3 of a tick. The due set is fixed at its start; trailing edges come first, then leading actions, each
in due-list order; while frozen the due ARMED cues become overdue instead. -/
def cueStage (s : State) : State :=
  let trails := s.cues.due.filter (trailingDue s)
  let leads := s.cues.due.filter (leadingDue s)
  let passed := s.cues.due.filter (overdueDue s)
  let s := passed.foldl (fun s n => markOverdue n s) s
  let s := trails.foldl (fun s n => trailingEdge n s) s
  let p := leads.foldl (fun p n => leadingAction n p) (s, Led.start)
  reportConflict p.2 p.1

/-! ## Hooked cues -/

/-- R102: whether a hook edge matches a direction. -/
def HookEdge.matches : HookEdge → Bool → Bool
  | .rising, up => up
  | .falling, up => !up
  | .either, _ => true

/-- R102, R103: what a qualified edge of a line does to the cue of one slot. -/
def hookSlot (line : Fin 8) (rising : Bool) (s : State) (n : Fin 48) : State :=
  match s.cueAt n with
  | none => s
  | some c =>
    match c.trigger with
    | .atTime _ => s
    | .hook hl he delay =>
      let due := s.time.tick + delay.setWidth 32
      let armed := place n (s.setCue n { c with wait := .armed due due false })
      if hl = line && he.matches rising then
        match c.wait with
        | .hooked => armed
        | .armed _ _ _ => if c.retrigger && !c.begun then armed else s
        | .inPulse _ _ _ _ => s
      else s

/-- R102, R103: hand a qualified edge to the cue table, in ascending slot order. -/
def hookEdge (line : Fin 8) (rising : Bool) (s : State) : State :=
  (List.finRange 48).foldl (hookSlot line rising) s

end Sys2Proof.Machine
end

