-- ==== Sys2Proof/Machine/EdgeOps.lean ====
section
/-! DEFINITION. The edge unit inside a tick (R112 to R120): sampling, the agreement filter, qualified edges and the edge log. -/

namespace Sys2Proof.Machine

/-- R114: whether a log selection takes an edge of a direction. -/
def Selection.takes : Selection → Bool → Bool
  | .none, _ => false
  | .rising, up => up
  | .falling, up => !up
  | .either, _ => true

/-- The record of a logged edge (Table 6-3), with its gap mark. -/
def edgeRecord (u : EdgeUnit) (line : Fin 8) (rising gap : Bool) (stamp : Tick) : EdgeRecord :=
  { seq := u.capture, line := line, rising := rising, gap := gap, stamp := stamp }

/-- R119: mark the oldest record with a gap. -/
def markOldest : List EdgeRecord → List EdgeRecord
  | [] => []
  | r :: rest => { r with gap := true } :: rest

/-- R117: store the record of a logged edge at the newest end; EDGES_READY when the count rises to the threshold. -/
def storeEdge (line : Fin 8) (rising : Bool) (s : State) : State :=
  let u := s.edges
  let log := u.log ++ [edgeRecord u line rising u.gapPending s.time.tick]
  let s := s.setEdges { u with log := log, capture := u.capture + 1, gapPending := false }
  if log.length = u.threshold then raise .edgesReady 0 0 (halfN log.length) s else s

/-- R120: one loss. -/
def loseEdge (s : State) : State :=
  raise .edgesLost 0 0 0 (s.setEdges { s.edges with lost := satInc s.edges.lost })

/-- R118, R119: a logged edge that finds the log full. -/
def overflowEdge (line : Fin 8) (rising : Bool) (s : State) : State :=
  let u := s.edges
  match u.policy with
  | .keepOldest => loseEdge (s.setEdges { u with capture := u.capture + 1, gapPending := true })
  | .keepNewest =>
    loseEdge (s.setEdges { u with
      log := markOldest u.log.tail ++ [edgeRecord u line rising u.gapPending s.time.tick]
      capture := u.capture + 1
      gapPending := false })

/-- R114, R116: hand an edge to the edge log, if the line's selection takes it. -/
def logEdge (line : Fin 8) (rising : Bool) (s : State) : State :=
  if s.edges.lines[line].select.takes rising then
    if s.edges.log.length < Config.logSize then storeEdge line rising s else overflowEdge line rising s
  else s

/-- The state with another line. -/
def State.setLine (s : State) (n : Fin 8) (l : Line) : State :=
  s.setEdges { s.edges with lines := s.edges.lines.set n.val l n.isLt }

/-- R113: the qualified edge that a line's run makes, if any: `some true` for rising. -/
def Line.edge (l : Line) : Option Bool :=
  match l.filtered, l.runValue with
  | .low, some true => if l.length ≤ l.runCount then some true else none
  | .high, some false => if l.length ≤ l.runCount then some false else none
  | _, _ => none

/-- R114: the filtered level changes, and the edge is handed to the log and then to the hook set. -/
def qualifyEdge (n : Fin 8) (s : State) : State :=
  match s.edges.lines[n].edge with
  | none => s
  | some rising =>
    let s := s.setLine n { s.edges.lines[n] with filtered := if rising then .high else .low }
    hookEdge n rising (logEdge n rising s)

/-- R113 step 1: the run after a sample. -/
def Line.sample (l : Line) (high : Bool) : Line :=
  if l.runValue = some high then { l with runCount := min (l.runCount + 1) 8 }
  else { l with runValue := some high, runCount := 1 }

/-- R112, R113: sample one line and update its filter. -/
def sampleLine (s : State) (n : Fin 8) : State :=
  let high := s.pins.inputs.ins.getLsbD n.val
  let l := s.edges.lines[n].sample high
  if l.filtered = .unsettled then s.setLine n { l with filtered := if high then .high else .low }
  else qualifyEdge n (s.setLine n l)

/-- R36 stage 2, R112: the lines are sampled in the order 0 to 7. -/
def edgeStage (s : State) : State := (List.finRange 8).foldl sampleLine s

end Sys2Proof.Machine
end

