-- ==== Sys2Proof/Machine/EdgeCommands.lean ====
section
/-! DEFINITION. The commands of group EDGE (R115, R121 to R124). -/

namespace Sys2Proof.Machine

/-- R115. -/
def cmdEdgeSetup (params : List Byte) (s : State) : Reply :=
  match params with
  | [b0, b1, b2] =>
    if h : b0.toNat < 8 then
      match Selection.ofCode b2 with
      | none => fail .param s
      | some sel =>
        if 1 ≤ b1.toNat ∧ b1.toNat ≤ 8 then
          done [] (s.setLine ⟨b0.toNat, h⟩
            { length := b1.toNat, select := sel, filtered := .unsettled, runValue := none, runCount := 0 })
        else fail .param s
    else fail .param s
  | _ => fail .format s

/-- R121, byte 0. -/
def FullPolicy.ofCode (b : Byte) : Option FullPolicy :=
  if b = 0 then some .keepOldest else if b = 1 then some .keepNewest else none

/-- R121. -/
def cmdEdgePolicy (params : List Byte) (s : State) : Reply :=
  match params with
  | [b0, b1] =>
    match FullPolicy.ofCode b0 with
    | none => fail .param s
    | some p =>
      if 1 ≤ b1.toNat ∧ b1.toNat ≤ 64 then
        done [] (s.setEdges { s.edges with policy := p, threshold := b1.toNat })
      else fail .param s
  | _ => fail .format s

/-- Table 6-3. -/
def EdgeRecord.bytes (r : EdgeRecord) : List Byte :=
  be16 r.seq ++ [byteN (128 * r.gap.toNat + 8 * r.rising.toNat + r.line.val)] ++ be32 r.stamp

/-- R122. -/
def cmdEdgeRead (params : List Byte) (s : State) : Reply :=
  match params with
  | [b] =>
    if 1 ≤ b.toNat ∧ b.toNat ≤ 3 then
      let out := s.edges.log.take b.toNat
      let left := s.edges.log.drop b.toNat
      done ([byteN out.length, byteN left.length] ++ out.flatMap EdgeRecord.bytes)
        (s.setEdges { s.edges with log := left })
    else fail .param s
  | _ => fail .format s

/-- R123. -/
def cmdEdgeFlush (params : List Byte) (s : State) : Reply :=
  match params with
  | [] =>
    done [byteN s.edges.log.length] (s.setEdges { s.edges with log := [], lost := 0, gapPending := false })
  | _ :: _ => fail .format s

/-- Table 6-4, bytes 8-9: two bits per line, line 7 first. -/
def filteredField (u : EdgeUnit) : Half :=
  halfN ((List.finRange 8).foldl (fun n i => n + u.lines[i].filtered.code * 4 ^ i.val) 0)

/-- Table 6-4, bytes 11-18. -/
def lineByte (l : Line) : Byte := byteN (16 * l.select.code + l.length)

/-- R124. The raw levels are those of the pins at the command. -/
def cmdEdgeStatus (params : List Byte) (s : State) : Reply :=
  match params with
  | [] =>
    let u := s.edges
    done ([byteN u.log.length] ++ be16 u.lost ++ [u.policy.code, byteN u.threshold] ++ be16 u.capture ++
      [byteB u.gapPending] ++ be16 (filteredField u) ++ [s.pins.inputs.ins] ++
      (List.finRange 8).map fun i => lineByte u.lines[i]) s
  | _ :: _ => fail .format s

/-- EDGE_SETUP (R115). -/
def execEdgeSetup (f : Frame) (s : State) : Host.Outcome State Fault Refusal :=
  .next (serveCommand (plain cmdEdgeSetup) f s)

/-- EDGE_POLICY (R121). -/
def execEdgePolicy (f : Frame) (s : State) : Host.Outcome State Fault Refusal :=
  .next (serveCommand (plain cmdEdgePolicy) f s)

/-- EDGE_READ (R122). -/
def execEdgeRead (f : Frame) (s : State) : Host.Outcome State Fault Refusal :=
  .next (serveCommand (plain cmdEdgeRead) f s)

/-- EDGE_FLUSH (R123). -/
def execEdgeFlush (f : Frame) (s : State) : Host.Outcome State Fault Refusal :=
  .next (serveCommand (plain cmdEdgeFlush) f s)

/-- EDGE_STATUS (R124). -/
def execEdgeStatus (f : Frame) (s : State) : Host.Outcome State Fault Refusal :=
  .next (serveCommand (plain cmdEdgeStatus) f s)

end Sys2Proof.Machine
end

