-- ==== Sys2Proof/Machine/NoteCommands.lean ====
section
/-! DEFINITION. The commands of group NOTE (R130, R134 to R136, R138). -/

namespace Sys2Proof.Machine

/-- Table 7-2. -/
def Notice.bytes (n : Notice) : List Byte :=
  be16 n.seq ++ [n.cls.code] ++ be16 n.handle ++ be16 n.tag ++ be32 n.stamp ++ be16 n.detail

/-- Section 7.8: the head is the oldest urgent notice, else the oldest routine notice. -/
def NoticeUnit.head (u : NoticeUnit) : Option Notice :=
  match u.urgent with
  | n :: _ => some n
  | [] => u.routine.head?

/-- R135: the fifteen-byte payload of NOTE.FIRST and NOTE.NEXT. -/
def headPayload (s : State) : List Byte :=
  let head := match s.notes.head with
    | some n => n.bytes
    | none => be16 s.notes.seq ++ [0x00] ++ be16 0 ++ be16 0 ++ be32 s.time.tick ++ be16 0
  head ++ [byteN s.notes.urgent.length, byteN s.notes.routine.length]

/-- R135. -/
def cmdNoteFirst (params : List Byte) (s : State) : Reply :=
  match params with
  | [] => done (headPayload s) s
  | _ :: _ => fail .format s

/-- R134, R136: retire the oldest urgent notice, and mark an overflow if the lane dropped any. -/
def NoticeUnit.retireUrgent (u : NoticeUnit) (now : Tick) : NoticeUnit :=
  let v := { u with urgent := u.urgent.tail }
  if u.urgentDropped = 0 then v
  else
    { v.append { cls := .urgentOverflow, handle := 0, tag := 0, stamp := now, detail := u.urgentDropped } u.urgentDropped
      with urgentDropped := 0 }

/-- R134, R136: retire the oldest routine notice, and mark an overflow if the lane dropped any. -/
def NoticeUnit.retireRoutine (u : NoticeUnit) (now : Tick) : NoticeUnit :=
  let v := { u with routine := u.routine.tail }
  if u.routineDropped = 0 then v
  else
    { v.append { cls := .routineOverflow, handle := 0, tag := 0, stamp := now, detail := u.routineDropped }
        u.routineDropped
      with routineDropped := 0 }

/-- R136: the notice unit after an acknowledgement of a sequence number; none if it is no lane's head. -/
def NoticeUnit.acknowledge (u : NoticeUnit) (seq : Half) (now : Tick) : Option NoticeUnit :=
  if (u.urgent.head?.map Notice.seq) = some seq then some (u.retireUrgent now)
  else if (u.routine.head?.map Notice.seq) = some seq then some (u.retireRoutine now)
  else none

/-- R136. -/
def cmdNoteNext (params : List Byte) (s : State) : Reply :=
  match params with
  | [h, l] =>
    match s.notes.acknowledge (h ++ l) s.time.tick with
    | none => fail .sequence s
    | some u => done (headPayload (s.setNotes u)) (s.setNotes u)
  | _ => fail .format s

/-- R130. -/
def cmdNoteEnable (params : List Byte) (s : State) : Reply :=
  match params with
  | [h, l] =>
    let m : Half := h ++ l
    if m &&& 0xF801 ≠ 0 then fail .param s
    else done (be16 m) (s.setNotes { s.notes with enables := m })
  | _ => fail .format s

/-- R138, Table 7-4: the sequence number of a lane's oldest notice, 0 when it is empty. -/
def oldestSeq (lane : List Notice) : Half := (lane.head?.map Notice.seq).getD 0

/-- R138. -/
def cmdNoteStatus (params : List Byte) (s : State) : Reply :=
  match params with
  | [] =>
    let u := s.notes
    done ([byteN u.urgent.length, byteN u.routine.length] ++ be16 (oldestSeq u.urgent) ++ be16 (oldestSeq u.routine) ++
      be16 u.seq ++ [packBits [u.journalLoss.latch, u.edgesLost.latch, u.conflict.latch]] ++ be16 u.conflict.count ++
      be16 u.edgesLost.count ++ be16 u.journalLoss.count ++ be16 u.urgentDropped ++ be16 u.routineDropped ++
      be16 u.enables) s
  | _ :: _ => fail .format s

/-- NOTE_FIRST (R135). -/
def execNoteFirst (f : Frame) (s : State) : Host.Outcome State Fault Refusal :=
  .next (serveCommand (plain cmdNoteFirst) f s)

/-- NOTE_NEXT (R136). -/
def execNoteNext (f : Frame) (s : State) : Host.Outcome State Fault Refusal :=
  .next (serveCommand (plain cmdNoteNext) f s)

/-- NOTE_ENABLE (R130). -/
def execNoteEnable (f : Frame) (s : State) : Host.Outcome State Fault Refusal :=
  .next (serveCommand (plain cmdNoteEnable) f s)

/-- NOTE_STATUS (R138). -/
def execNoteStatus (f : Frame) (s : State) : Host.Outcome State Fault Refusal :=
  .next (serveCommand (plain cmdNoteStatus) f s)

end Sys2Proof.Machine
end

