-- ==== Sys2Proof/Machine/WardOps.lean ====
section
/-! DEFINITION. The warden's shared operations: windows (R143), faults and responses (R148, R149), the nHRST pulse (R150). -/

namespace Sys2Proof.Machine

/-- R143: OFF. -/
def Warden.off (w : Warden) : Bool := !w.armed

/-- R143: CLOSED: armed, the window has a closed phase, and elapsed is less than T_min. -/
def Warden.closed (w : Warden) : Bool := w.armed && w.closedPhase && decide (w.elapsed.toNat < w.tMin.toNat)

/-- R143: a window starts. -/
def startWindow (closedPhase : Bool) (s : State) : State :=
  s.setWard { s.ward with elapsed := 0, closedPhase := closedPhase }

/-- R150: start or restart the nHRST pulse. -/
def startHrst (s : State) : State := s.setWard { s.ward with hrst := Config.hrstLength }

/-- R149: the response at the threshold: stand-in, then nHRST, then the strikes are cleared. -/
def wardenResponse (s : State) : State :=
  let s := if s.ward.respStandin then requestStandin .warden s else s
  let s := if s.ward.respHrst then startHrst s else s
  s.setWard { s.ward with strikes := 0 }

/-- R148 steps 1 to 3: record a fault, raise its notice, queue its record. -/
def recordFault (k : FaultKind) (s : State) : State :=
  let s := s.setWard { s.ward with
    lastFault := k, faults := s.ward.faults + 1, strikes := s.ward.strikes + 1 }
  queueJournal .wardenFault k.code
    (raise .wardenFault 0 0 (k.code ++ byteN s.ward.strikes) s)

/-- R148: a fault with its response. -/
def wardenFault (k : FaultKind) (s : State) : State :=
  let s := recordFault k s
  if s.ward.strikes = s.ward.threshold then wardenResponse s else s

/-- R145: arming, by WARD.ARM or at step 6 of the power-up sequence. -/
def armWarden (s : State) : State :=
  s.setWard { s.ward with armed := true, elapsed := 0, closedPhase := false, expected := 1, strikes := 0 }

/-- R156: the warden condition of a return. -/
def returnAllowed (w : Warden) : Bool :=
  !w.fsafeAsserted && (!w.armed || (w.strikes == 0 && w.beatSince))

end Sys2Proof.Machine
end

