-- ==== Sys2Proof/Machine/StandCommands.lean ====
section
/-! DEFINITION. The commands of group STAND (R164, R171 to R174). -/

namespace Sys2Proof.Machine

/-- R164. -/
def cmdStandEnter (params : List Byte) (s : State) : Reply :=
  match params with
  | [] =>
    let t := requestStandin .command s
    done [s.stand.state.code, t.stand.state.code, t.stand.causes.code] t
  | _ :: _ => fail .format s

/-- R171. -/
def cmdStandReturnReq (params : List Byte) (s : State) : Reply :=
  match params with
  | [] => if s.stand.state = .host then fail .state s else done [] s
  | _ :: _ => fail .format s

/-- R167: whether the store engine holds off the evaluation of a return: PROGRAMMING a page in 1..8, or WIPING. -/
def evaluationHeld (s : State) : Bool :=
  match s.store.engine with
  | .idle => false
  | .programming page _ _ => 1 ≤ page.val && page.val ≤ 8
  | .appending _ _ _ => false
  | .wiping _ _ _ => true

/-- R173 step 1: the state becomes HOST; causes and active image are gone. -/
def leaveStandin (s : State) : State :=
  s.setStand { s.stand with state := .host, causes := Causes.none, active := none, pos := 0 }

/-- R173 step 3. -/
def evaluateAtReturn (s : State) : State :=
  if s.stand.evalPending && !evaluationHeld s then evaluateBanks s else s

/-- R173: the return. -/
def returnToHost (s : State) : State :=
  let before := s.stand
  let s := evaluateAtReturn (leaveStandin s)
  queueJournal .standinReturn before.causes.code
    (raise .standinReturn 0 0 (halfN (256 * before.state.code.toNat + before.causes.code.toNat)) s)

/-- The bank and generation of an image that may be none (R173, R174). -/
def imageBrief (i : Option Image) : List Byte :=
  bankCode i :: be16 (match i with | none => 0 | some x => x.gen)

/-- R172, R173. -/
def cmdStandReturnConfirm (params : List Byte) (s : State) : Reply :=
  match params with
  | [] =>
    if !windowOpen .goBack s then fail .sequence s
    else if s.stand.state = .host then fail .state s
    else if !returnAllowed s.ward then fail .state s
    else
      let t := returnToHost s
      done (imageBrief t.stand.standby) t
  | _ :: _ => fail .format s

/-- Table 9-2, bytes 9 to 13: mode, cycle length and step count of the active image. -/
def activeFields : Option Image → List Byte
  | none => [0x00, 0, 0, 0, 0]
  | some x =>
    [x.mode.code, byteN (x.length / 65536), byteN (x.length / 256), byteN x.length, byteN x.steps.length]

/-- R174, Table 9-2. -/
def cmdStandStatus (params : List Byte) (s : State) : Reply :=
  match params with
  | [] =>
    let x := s.stand
    done ([x.state.code, x.causes.code] ++ imageBrief x.active ++ imageBrief x.standby ++
      [packBits [x.evalPending, x.validB, x.validA]] ++ activeFields x.active ++
      [byteN (x.pos / 65536), byteN (x.pos / 256), byteN x.pos] ++ be32 x.masked ++ be32 x.entryStamp) s
  | _ :: _ => fail .format s

/-- STAND_ENTER (R164). -/
def execStandEnter (f : Frame) (s : State) : Host.Outcome State Fault Refusal :=
  .next (serveCommand (plain cmdStandEnter) f s)

/-- STAND_RETURN_REQ (R171). -/
def execStandReturnReq (f : Frame) (s : State) : Host.Outcome State Fault Refusal :=
  .next (serveCommand (request .goBack cmdStandReturnReq) f s)

/-- STAND_RETURN_CONFIRM (R173). -/
def execStandReturnConfirm (f : Frame) (s : State) : Host.Outcome State Fault Refusal :=
  .next (serveCommand (plain cmdStandReturnConfirm) f s)

/-- STAND_STATUS (R174). -/
def execStandStatus (f : Frame) (s : State) : Host.Outcome State Fault Refusal :=
  .next (serveCommand (plain cmdStandStatus) f s)

end Sys2Proof.Machine
end

