-- ==== Sys2Proof/Machine/StoreCommands.lean ====
section
/-! DEFINITION. The commands of group STORE (R179 to R181, R183, R184, R193, R194). -/

namespace Sys2Proof.Machine

/-! ## Engine tests -/

/-- The engine is WIPING (R177). -/
def isWiping (e : Engine) : Bool :=
  match e with
  | .idle => false
  | .programming _ _ _ => false
  | .appending _ _ _ => false
  | .wiping _ _ _ => true

/-- The page that the engine is PROGRAMMING, whatever its origin (R180). -/
def programmingPage (e : Engine) : Option Nat :=
  match e with
  | .idle => none
  | .programming page _ _ => some page.val
  | .appending slot _ _ => some (24 + slot.val / 4)
  | .wiping _ _ _ => none

/-- R176, R181: whether a page refuses host programming: a journal page, or a page of a locked group. -/
def pageLocked (s : Store) (page : Nat) : Bool :=
  if page = 0 then s.lockConfig
  else if page ≤ 8 then s.lockStandin
  else if page ≤ 23 then s.lockUser
  else true

/-! ## Commands -/

/-- R180. -/
def cmdStoreRead (params : List Byte) (s : State) : Reply :=
  match params with
  | [page, off, len] =>
    if 31 < page.toNat ∨ 63 < off.toNat ∨ len.toNat < 1 ∨ 24 < len.toNat ∨ 64 < off.toNat + len.toNat then fail .param s
    else if isWiping s.store.engine || programmingPage s.store.engine == some page.toNat then fail .busy s
    else done (s.store.pages.readRun (pageBase page.toNat + off.toNat) len.toNat) s
  | _ => fail .format s

/-- R179. -/
def cmdStoreLoad (params : List Byte) (s : State) : Reply :=
  match params with
  | [] => fail .format s
  | off :: data =>
    if data.length < 1 ∨ 16 < data.length then fail .format s
    else if 63 < off.toNat ∨ 64 < off.toNat + data.length then fail .param s
    else done [] (s.setStore { s.store with buffer := s.store.buffer.writeRun off.toNat data })

/-- R179. -/
def cmdStoreClear (params : List Byte) (s : State) : Reply :=
  match params with
  | [] => done [] (s.setStore { s.store with buffer := [] })
  | _ :: _ => fail .format s

/-- R181. -/
def cmdStoreOpen (params : List Byte) (s : State) : Reply :=
  match params with
  | [] => done [] s
  | _ :: _ => fail .format s

/-- R181. -/
def cmdStoreProgram (params : List Byte) (s : State) : Reply :=
  match params with
  | [page] =>
    if h : page.toNat < 32 then
      if !windowOpen .store s then fail .sequence s
      else if pageLocked s.store page.toNat then fail .locked s
      else if s.store.engine ≠ .idle then fail .busy s
      else
        done [] (s.setStore { s.store with
          engine := .programming ⟨page.toNat, h⟩ (s.store.buffer.readRun 0 64) 5 })
    else fail .param s
  | _ => fail .format s

/-- R183: the lock set as one byte. -/
def lockByte (s : Store) : Byte := packBits [s.lockUser, s.lockStandin, s.lockConfig]

/-- R183: the lock set with a group added. -/
def addLock (b : Byte) (s : Store) : Option Store :=
  if b = 0 then some { s with lockConfig := true }
  else if b = 1 then some { s with lockStandin := true }
  else if b = 2 then some { s with lockUser := true }
  else none

/-- R183. -/
def cmdStoreLock (params : List Byte) (s : State) : Reply :=
  match params with
  | [b] =>
    match addLock b s.store with
    | none => fail .param s
    | some st =>
      if isWiping s.store.engine then fail .busy s
      else done [lockByte st] (s.setStore st)
  | _ => fail .format s

/-- R184. -/
def cmdStoreWipe (params : List Byte) (s : State) : Reply :=
  match params with
  | [] =>
    if !windowOpen .store s then fail .sequence s
    else if s.ward.armed || s.stand.state != .host then fail .state s
    else if s.store.engine ≠ .idle then fail .busy s
    else done [] (s.setStore { s.store with engine := .wiping 0 125 0 })
  | _ :: _ => fail .format s

/-- R194, bytes 1 to 3: page, origin and remaining events. -/
def engineFields : Engine → List Byte
  | .idle => [0, 0, 0]
  | .programming page _ remaining => [byteN page.val, 0x00, byteN remaining]
  | .appending slot _ remaining => [byteN (24 + slot.val / 4), 0x01, byteN remaining]
  | .wiping page remaining _ => [byteN page, 0x00, byteN remaining]

/-- R194, Table 10-6. -/
def cmdStoreStatus (params : List Byte) (s : State) : Reply :=
  match params with
  | [] =>
    let x := s.store
    done ([x.engine.code] ++ engineFields x.engine ++ [byteN x.queue.length] ++ be16 x.journalLost ++
      [lockByte x, packBits [s.stand.validB, s.stand.validA], byteN x.nextSlot.val] ++ be16 x.nextSeq) s
  | _ :: _ => fail .format s

/-- R193: whether a journal page is being programmed. -/
def journalBusy (e : Engine) : Bool :=
  isWiping e || (match programmingPage e with | none => false | some p => 24 ≤ p)

/-- R193. -/
def cmdStoreJournal (params : List Byte) (s : State) : Reply :=
  match params with
  | [b] =>
    if 31 < b.toNat then fail .param s
    else if journalBusy s.store.engine then fail .busy s
    else
      let slots := slotsByAge s.store.pages
      match slots[b.toNat]? with
      | none => done [0x00, byteN slots.length] s
      | some k => done ([0x01, byteN slots.length] ++ slotBytes s.store.pages k) s
  | _ => fail .format s

/-- STORE_READ (R180). -/
def execStoreRead (f : Frame) (s : State) : Host.Outcome State Fault Refusal :=
  .next (serveCommand (plain cmdStoreRead) f s)

/-- STORE_LOAD (R179). -/
def execStoreLoad (f : Frame) (s : State) : Host.Outcome State Fault Refusal :=
  .next (serveCommand (plain cmdStoreLoad) f s)

/-- STORE_CLEAR (R179). -/
def execStoreClear (f : Frame) (s : State) : Host.Outcome State Fault Refusal :=
  .next (serveCommand (plain cmdStoreClear) f s)

/-- STORE_OPEN (R181). -/
def execStoreOpen (f : Frame) (s : State) : Host.Outcome State Fault Refusal :=
  .next (serveCommand (request .store cmdStoreOpen) f s)

/-- STORE_PROGRAM (R181). -/
def execStoreProgram (f : Frame) (s : State) : Host.Outcome State Fault Refusal :=
  .next (serveCommand (plain cmdStoreProgram) f s)

/-- STORE_LOCK (R183). -/
def execStoreLock (f : Frame) (s : State) : Host.Outcome State Fault Refusal :=
  .next (serveCommand (plain cmdStoreLock) f s)

/-- STORE_WIPE (R184). -/
def execStoreWipe (f : Frame) (s : State) : Host.Outcome State Fault Refusal :=
  .next (serveCommand (plain cmdStoreWipe) f s)

/-- STORE_STATUS (R194). -/
def execStoreStatus (f : Frame) (s : State) : Host.Outcome State Fault Refusal :=
  .next (serveCommand (plain cmdStoreStatus) f s)

/-- STORE_JOURNAL (R193). -/
def execStoreJournal (f : Frame) (s : State) : Host.Outcome State Fault Refusal :=
  .next (serveCommand (plain cmdStoreJournal) f s)

end Sys2Proof.Machine
end

