-- ==== Sys2Proof/Machine/SysCommands.lean ====
section
/-! DEFINITION. The commands of group SYS (R132, R197, R198, R202, R203). -/

namespace Sys2Proof.Machine

/-- R143, R157: the warden's state, 00h OFF, 01h CLOSED, 02h OPEN. -/
def wardenCode (w : Warden) : Byte :=
  if !w.armed then 0x00 else if w.closedPhase && decide (w.elapsed.toNat < w.tMin.toNat) then 0x01 else 0x02

/-- R83, R203: the number of FREE slots. -/
def freeSlots (s : State) : Nat := (List.finRange 48).countP fun n => (s.cueAt n).isNone

/-- R203. -/
def cmdSysStatus (params : List Byte) (s : State) : Reply :=
  match params with
  | [] =>
    let (kind, life) := match s.port.window with
      | none => ((0 : Byte), (0 : Byte))
      | some w => (w.kind.code, byteN w.remaining)
    done (be16 s.port.errors ++
      [s.sys.causes.code, s.stand.state.code, wardenCode s.ward, s.store.engine.code, byteB s.time.running,
        s.sys.outcome.code, kind, life, byteN (freeSlots s)]) s
  | _ :: _ => fail .format s

/-- R202. -/
def cmdSysIdentify (params : List Byte) (s : State) : Reply :=
  match params with
  | [] => done [0x50, 0x48, 0x16, 0x03, 48, 16, 8, 64, 32] s
  | _ :: _ => fail .format s

/-- R197. -/
def cmdSysCause (params : List Byte) (s : State) : Reply :=
  match params with
  | [b] =>
    if b = 0 then done [s.sys.causes.code] s
    else if b = 1 then done [s.sys.causes.code] (s.setSys { s.sys with causes := ResetSet.none })
    else fail .param s
  | _ => fail .format s

/-- R198: the request. -/
def cmdSysResetReq (params : List Byte) (s : State) : Reply :=
  match params with
  | [] => if s.stand.state = .host then done [] s else fail .state s
  | _ :: _ => fail .format s

/-- R198: the confirmation. -/
def cmdSysResetConfirm (params : List Byte) (s : State) : Reply :=
  match params with
  | [] =>
    if !windowOpen .reset s then fail .sequence s
    else if s.stand.state = .host then done [] (s.setSys { s.sys with softPending := true })
    else fail .state s
  | _ :: _ => fail .format s

/-- R132: the sticky class that a parameter byte names. -/
def stickyOfCode (b : Byte) : Option NoticeClass :=
  if b = 0x06 then some .conflict else if b = 0x08 then some .edgesLost
  else if b = 0x0A then some .journalLoss else none

/-- R132. -/
def cmdSysUnstick (params : List Byte) (s : State) : Reply :=
  match params with
  | [b] =>
    match stickyOfCode b with
    | none => fail .param s
    | some c =>
      match s.notes.sticky c with
      | none => fail .param s
      | some k => done (byteB k.latch :: be16 k.count) (s.setNotes (s.notes.setSticky c Sticky.reset))
  | _ => fail .format s

/-- SYS_STATUS (R203). -/
def execSysStatus (f : Frame) (s : State) : Host.Outcome State Fault Refusal :=
  .next (serveCommand (plain cmdSysStatus) f s)

/-- SYS_IDENTIFY (R202). -/
def execSysIdentify (f : Frame) (s : State) : Host.Outcome State Fault Refusal :=
  .next (serveCommand (plain cmdSysIdentify) f s)

/-- SYS_CAUSE (R197). -/
def execSysCause (f : Frame) (s : State) : Host.Outcome State Fault Refusal :=
  .next (serveCommand (plain cmdSysCause) f s)

/-- SYS_RESET_REQ (R198). -/
def execSysResetReq (f : Frame) (s : State) : Host.Outcome State Fault Refusal :=
  .next (serveCommand (request .reset cmdSysResetReq) f s)

/-- SYS_RESET_CONFIRM (R198). -/
def execSysResetConfirm (f : Frame) (s : State) : Host.Outcome State Fault Refusal :=
  .next (serveCommand (plain cmdSysResetConfirm) f s)

/-- SYS_UNSTICK (R132). -/
def execSysUnstick (f : Frame) (s : State) : Host.Outcome State Fault Refusal :=
  .next (serveCommand (plain cmdSysUnstick) f s)

end Sys2Proof.Machine
end

