-- ==== Sys2Proof/Machine/TimeCommands.lean ====
section
/-! DEFINITION. The commands of group TIME (R29, R30, R31, R33, R34, R35). -/

namespace Sys2Proof.Machine

/-- R31. -/
def cmdTimeRead (params : List Byte) (s : State) : Reply :=
  match params with
  | [] =>
    let t := s.time
    done (be32 t.tick ++ be32 t.wardenMs ++
      [byteB t.running, byteN t.rate.val, t.configured.code, t.active.code, packBits [t.refOld, t.refNew]]) s
  | _ :: _ => fail .format s

/-- R33. -/
def cmdTimeRun (params : List Byte) (s : State) : Reply :=
  match params with
  | [] =>
    if s.time.running then fail .state s
    else done [] (s.setTime { s.time with running := true, divider := 0 })
  | _ :: _ => fail .format s

/-- R34. -/
def cmdTimeStop (params : List Byte) (s : State) : Reply :=
  match params with
  | [] =>
    if !s.time.running then fail .state s
    else if s.stand.state ≠ .host then fail .state s
    else done [] (s.setTime { s.time with running := false, divider := 0 })
  | _ :: _ => fail .format s

/-- R35. -/
def cmdTimeSet (params : List Byte) (s : State) : Reply :=
  if params.length ≠ 4 then fail .format s
  else if s.time.running || !s.cues.due.isEmpty then fail .state s
  else done [] (s.setTime { s.time with tick := wordAt params 0 })

/-- R30. -/
def cmdTimeRate (params : List Byte) (s : State) : Reply :=
  match params with
  | [b] =>
    if 3 < b.toNat then fail .param s
    else if s.time.running then fail .state s
    else done [] (s.setTime { s.time with rate := Fin.ofNat 4 b.toNat })
  | _ => fail .format s

/-- R29. -/
def cmdTimeRestore (params : List Byte) (s : State) : Reply :=
  match params with
  | [] =>
    if s.time.subst && s.time.refNew && s.time.refOld then
      done [] (s.setTime { s.time with active := .external, subst := false })
    else fail .state s
  | _ :: _ => fail .format s

/-- TIME_READ (R31). -/
def execTimeRead (f : Frame) (s : State) : Host.Outcome State Fault Refusal :=
  .next (serveCommand (plain cmdTimeRead) f s)

/-- TIME_RUN (R33). -/
def execTimeRun (f : Frame) (s : State) : Host.Outcome State Fault Refusal :=
  .next (serveCommand (plain cmdTimeRun) f s)

/-- TIME_STOP (R34). -/
def execTimeStop (f : Frame) (s : State) : Host.Outcome State Fault Refusal :=
  .next (serveCommand (plain cmdTimeStop) f s)

/-- TIME_SET (R35). -/
def execTimeSet (f : Frame) (s : State) : Host.Outcome State Fault Refusal :=
  .next (serveCommand (plain cmdTimeSet) f s)

/-- TIME_RATE (R30). -/
def execTimeRate (f : Frame) (s : State) : Host.Outcome State Fault Refusal :=
  .next (serveCommand (plain cmdTimeRate) f s)

/-- TIME_RESTORE (R29). -/
def execTimeRestore (f : Frame) (s : State) : Host.Outcome State Fault Refusal :=
  .next (serveCommand (plain cmdTimeRestore) f s)

end Sys2Proof.Machine
end

