-- ==== Sys2Proof/Machine/WardCommands.lean ====
section
/-! DEFINITION. The commands of group WARD (R142, R145 to R147, R151, R152, R157). -/

namespace Sys2Proof.Machine

/-- R142. -/
def cmdWardSetup (params : List Byte) (s : State) : Reply :=
  match params with
  | [a1, a0, b1, b0, th, resp] =>
    let tMin : Half := a1 ++ a0
    let tMax : Half := b1 ++ b0
    if !(validTMin tMin tMax && validTMax tMax && validThreshold th && validResponse resp) then fail .param s
    else if s.ward.armed then fail .state s
    else
      done [] (s.setWard { s.ward with
        tMin := tMin, tMax := tMax, threshold := th.toNat, respStandin := resp.getLsbD 0,
        respHrst := resp.getLsbD 1 })
  | _ => fail .format s

/-- R145. -/
def cmdWardArm (params : List Byte) (s : State) : Reply :=
  match params with
  | [] => if s.ward.armed then fail .state s else done [] (armWarden s)
  | _ :: _ => fail .format s

/-- R147: a good beat. -/
def goodBeat (s : State) : State :=
  startWindow true (s.setWard { s.ward with
    strikes := 0, expected := s.ward.expected + 1, beatSince := true })

/-- R146: a bad beat: its fault, and a new window with a closed phase; ERR_BEAT keeps these effects (R17). -/
def badBeat (k : FaultKind) (s : State) : Reply :=
  { status := .beat, payload := [], state := startWindow true (wardenFault k s) }

/-- R146, R147. -/
def cmdWardBeat (params : List Byte) (s : State) : Reply :=
  match params with
  | [count] =>
    if s.ward.off then fail .state s
    else if s.ward.closed then badBeat .early s
    else if count ≠ s.ward.expected then badBeat .wrongCount s
    else done ((s.ward.expected + 1) :: be16 s.ward.elapsed) (goodBeat s)
  | _ => fail .format s

/-- R151. -/
def cmdWardDisarmReq (params : List Byte) (s : State) : Reply :=
  match params with
  | [] =>
    if s.ward.off then fail .state s
    else if s.ward.latch then fail .locked s
    else done [] s
  | _ :: _ => fail .format s

/-- R152: disarming. -/
def disarmWarden (s : State) : State :=
  s.setWard { s.ward with armed := false, elapsed := 0, closedPhase := false, strikes := 0, expected := 0 }

/-- R152. -/
def cmdWardDisarmConfirm (params : List Byte) (s : State) : Reply :=
  match params with
  | [] =>
    if !windowOpen .disarm s then fail .sequence s
    else if s.ward.off then fail .state s
    else if s.ward.latch then fail .locked s
    else done [] (disarmWarden s)
  | _ :: _ => fail .format s

/-- R157, Table 8-2. The pin level is that at the command. -/
def cmdWardStatus (params : List Byte) (s : State) : Reply :=
  match params with
  | [] =>
    let w := s.ward
    done ([wardenCode w, byteN w.strikes, if w.armed then w.expected else 0] ++
      be16 (if w.armed then w.elapsed else 0) ++ [w.lastFault.code] ++ be32 w.faults ++
      [packBits [w.closedPhase, w.autoArm, w.latch, w.beatSince, s.pins.inputs.nFsafe, w.fsafeEnable,
        w.fsafeAsserted]] ++
      be16 w.fsafeDur ++ be16 w.tMin ++ be16 w.tMax ++
      [byteN w.threshold, packBits [w.respHrst, w.respStandin], byteN w.hrst]) s
  | _ :: _ => fail .format s

/-- WARD_SETUP (R142). -/
def execWardSetup (f : Frame) (s : State) : Host.Outcome State Fault Refusal :=
  .next (serveCommand (plain cmdWardSetup) f s)

/-- WARD_ARM (R145). -/
def execWardArm (f : Frame) (s : State) : Host.Outcome State Fault Refusal :=
  .next (serveCommand (plain cmdWardArm) f s)

/-- WARD_BEAT (R146). -/
def execWardBeat (f : Frame) (s : State) : Host.Outcome State Fault Refusal :=
  .next (serveCommand (plain cmdWardBeat) f s)

/-- WARD_DISARM_REQ (R151). -/
def execWardDisarmReq (f : Frame) (s : State) : Host.Outcome State Fault Refusal :=
  .next (serveCommand (request .disarm cmdWardDisarmReq) f s)

/-- WARD_DISARM_CONFIRM (R152). -/
def execWardDisarmConfirm (f : Frame) (s : State) : Host.Outcome State Fault Refusal :=
  .next (serveCommand (plain cmdWardDisarmConfirm) f s)

/-- WARD_STATUS (R157). -/
def execWardStatus (f : Frame) (s : State) : Host.Outcome State Fault Refusal :=
  .next (serveCommand (plain cmdWardStatus) f s)

end Sys2Proof.Machine
end

