-- ==== Sys2Proof/Machine/FrameOutcomes.lean ====
section
/-! DEFINITION. The frame outcomes as rows of their own: the port is given the bytes of one transaction and decides what they are
(R1, R4, R8 to R12, R24). -/

namespace Sys2Proof.Machine

/-! ## The catalogue (R24, Table 1-5) -/

/-- Group SYS. -/
def sysCommand (code : Byte) : Option Command :=
  if code = 0x00 then some (plain cmdSysStatus)
  else if code = 0x01 then some (plain cmdSysIdentify)
  else if code = 0x02 then some (plain cmdSysCause)
  else if code = 0x03 then some (request .reset cmdSysResetReq)
  else if code = 0x04 then some (plain cmdSysResetConfirm)
  else if code = 0x05 then some (plain cmdSysUnstick)
  else none

/-- Group TIME. -/
def timeCommand (code : Byte) : Option Command :=
  if code = 0x10 then some (plain cmdTimeRead)
  else if code = 0x11 then some (plain cmdTimeRun)
  else if code = 0x12 then some (plain cmdTimeStop)
  else if code = 0x13 then some (plain cmdTimeSet)
  else if code = 0x14 then some (plain cmdTimeRate)
  else if code = 0x15 then some (plain cmdTimeRestore)
  else none

/-- Group CUE. -/
def cueCommand (code : Byte) : Option Command :=
  if code = 0x20 then some (plain cmdCueAdd)
  else if code = 0x21 then some (plain cmdCueCancel)
  else if code = 0x22 then some (plain cmdCueAmend)
  else if code = 0x23 then some (plain cmdCueQuery)
  else if code = 0x24 then some (plain cmdCueList)
  else if code = 0x25 then some (plain cmdCueHooks)
  else if code = 0x26 then some (plain cmdCuePurge)
  else if code = 0x27 then some (plain cmdCueFreeze)
  else if code = 0x28 then some (plain cmdCueThaw)
  else if code = 0x29 then some (plain cmdCueStatus)
  else none

/-- Group CHAN. -/
def chanCommand (code : Byte) : Option Command :=
  if code = 0x30 then some (plain cmdChanSetup)
  else if code = 0x31 then some (plain cmdChanForce)
  else if code = 0x32 then some (plain cmdChanSeal)
  else if code = 0x33 then some (plain cmdChanRead)
  else none

/-- Group EDGE. -/
def edgeCommand (code : Byte) : Option Command :=
  if code = 0x40 then some (plain cmdEdgeSetup)
  else if code = 0x41 then some (plain cmdEdgePolicy)
  else if code = 0x42 then some (plain cmdEdgeRead)
  else if code = 0x43 then some (plain cmdEdgeFlush)
  else if code = 0x44 then some (plain cmdEdgeStatus)
  else none

/-- Group NOTE. -/
def noteCommand (code : Byte) : Option Command :=
  if code = 0x50 then some (plain cmdNoteFirst)
  else if code = 0x51 then some (plain cmdNoteNext)
  else if code = 0x52 then some (plain cmdNoteEnable)
  else if code = 0x53 then some (plain cmdNoteStatus)
  else none

/-- Group WARD. -/
def wardCommand (code : Byte) : Option Command :=
  if code = 0x60 then some (plain cmdWardSetup)
  else if code = 0x61 then some (plain cmdWardArm)
  else if code = 0x62 then some (plain cmdWardBeat)
  else if code = 0x63 then some (request .disarm cmdWardDisarmReq)
  else if code = 0x64 then some (plain cmdWardDisarmConfirm)
  else if code = 0x65 then some (plain cmdWardStatus)
  else none

/-- Group STAND. -/
def standCommand (code : Byte) : Option Command :=
  if code = 0x70 then some (plain cmdStandEnter)
  else if code = 0x71 then some (request .goBack cmdStandReturnReq)
  else if code = 0x72 then some (plain cmdStandReturnConfirm)
  else if code = 0x73 then some (plain cmdStandStatus)
  else none

/-- Group STORE. -/
def storeCommand (code : Byte) : Option Command :=
  if code = 0x80 then some (plain cmdStoreRead)
  else if code = 0x81 then some (plain cmdStoreLoad)
  else if code = 0x82 then some (plain cmdStoreClear)
  else if code = 0x83 then some (request .store cmdStoreOpen)
  else if code = 0x84 then some (plain cmdStoreProgram)
  else if code = 0x85 then some (plain cmdStoreLock)
  else if code = 0x86 then some (plain cmdStoreWipe)
  else if code = 0x87 then some (plain cmdStoreStatus)
  else if code = 0x88 then some (plain cmdStoreJournal)
  else none

/-- R24: the command of a code; the code's high digit selects the group. -/
def commandOf (code : Byte) : Option Command :=
  match code.toNat / 16 with
  | 0 => sysCommand code
  | 1 => timeCommand code
  | 2 => cueCommand code
  | 3 => chanCommand code
  | 4 => edgeCommand code
  | 5 => noteCommand code
  | 6 => wardCommand code
  | 7 => standCommand code
  | 8 => storeCommand code
  | _ => none

/-- R12, R24: what the port runs for a code: its command, or the ERR_FORMAT of an unknown code. -/
def commandFor (code : Byte) : Command := (commandOf code).getD unknownCode

/-! ## Transactions -/

/-- R2: the span of a frame with a length byte, in a transaction of some bits. -/
def bitSpan (bits : List Bool) (length : Byte) : Span := { frameLen := frameLength length, clocks := bits.length }

/-- Section 1.3: the outcome of a transaction's bits at a ready port. -/
def evaluate (bits : List Bool) (s : State) : State :=
  let bytes := bytesOfBits bits
  let x := bitSpan bits (byteAt bytes 0)
  match classify bytes with
  | .empty => s
  | .aborted => abortFrame bits.length s
  | .lengthOut seq => refuseLength x seq s
  | .checkFailed seq => refuseCheck x seq s
  | .intact seq code params => serveIntact (commandFor code) x seq params s

/-- R1, R4: the outcome of a refused transaction's bits at a ready port: an aborted frame, whatever they are; none if no
complete byte arrived. -/
def refuse (bits : List Bool) (s : State) : State :=
  if bytesOfBits bits = [] then s else abortFrame bits.length s

/-- R1, R22: one transaction. -/
def transact (serve : List Bool → State → State) (t : Transaction) (s : State) : State :=
  whenReady (sampled t).length t.fresh t.pins (serve (sampled t)) s

/-- FRAME_ABORTED (R8); what the bytes are, the port decides (log 20). -/
def execFrameAborted (t : Transaction) (s : State) : Host.Outcome State Fault Refusal :=
  .next (transact evaluate t s)

/-- REFUSED_TRANSACTION (R4). -/
def execRefusedTransaction (t : Transaction) (s : State) : Host.Outcome State Fault Refusal :=
  .next (transact refuse t s)

/-- LENGTH_OUT_OF_RANGE (R9); what the bytes are, the port decides (log 20). -/
def execLengthOutOfRange (t : Transaction) (s : State) : Host.Outcome State Fault Refusal :=
  .next (transact evaluate t s)

/-- CHECK_FAILED (R10); what the bytes are, the port decides (log 20). -/
def execCheckFailed (t : Transaction) (s : State) : Host.Outcome State Fault Refusal :=
  .next (transact evaluate t s)

/-- REPLAY (R11); what the bytes are, the port decides (log 20). -/
def execReplay (t : Transaction) (s : State) : Host.Outcome State Fault Refusal :=
  .next (transact evaluate t s)

/-- UNKNOWN_COMMAND_CODE (R12); what the bytes are, the port decides (log 20). -/
def execUnknownCommandCode (t : Transaction) (s : State) : Host.Outcome State Fault Refusal :=
  .next (transact evaluate t s)

end Sys2Proof.Machine
end

