-- ==== Sys2Proof/Machine/StoreEngine.lean ====
section
/-! DEFINITION. How an operation of the store engine ends (R177, R178, R182, R184, R191), and step 7 of a warden-millisecond
event. -/

namespace Sys2Proof.Machine

/-! ## What a write leaves -/

/-- R182, R184, R191: bytes that failed verification differ from the data in at least one byte; which bytes they are is a free
value (log 10). -/
def flawedBytes (n : Nat) (data : List Byte) : List Byte :=
  data.mapIdx fun i x =>
    if i = Config.flawIndex n % data.length then x + byteN (1 + Config.flawOffset n % 255) else Config.flawByte n i

/-- The bytes that a completed write or erase of some data leaves: the data if it takes. -/
def landedBytes (takes : Bool) (n : Nat) (data : List Byte) : List Byte := if takes then data else flawedBytes n data

/-- A completed write of some data at an address, with erased bytes behind it. -/
def land (takes : Bool) (base : Nat) (data : List Byte) (erasedBehind : Nat) (s : State) : State :=
  (s.setStore { s.store with
    pages := s.store.pages.writeRun base
      (landedBytes takes s.free data ++ List.replicate erasedBehind erasedByte) }).useFree

/-- R177, R178: at completion the engine becomes IDLE and takes up the journal queue. -/
def goIdle (s : State) : State := takeUpJournal (s.setStore { s.store with engine := .idle })

/-! ## Host programs -/

/-- R177: a HOST program whose last event this is. -/
def programDue (s : State) : Bool :=
  match s.store.engine with
  | .programming _ _ remaining => remaining ≤ 1
  | .idle => false
  | .appending _ _ _ => false
  | .wiping _ _ _ => false

/-- R182: the program of a page ends. -/
def endProgram (page : Fin 32) (data : List Byte) (takes : Bool) (s : State) : State :=
  let s := land takes (pageBase page.val) data 0 s
  let s := raise .storeDone 0 0 (halfN (256 * page.val + (!takes).toNat)) s
  let s := if takes then s else queueJournal .storeFault (byteN page.val) (raise .storeFault 0 0 (halfN page.val) s)
  let s := if 1 ≤ page.val ∧ page.val ≤ 8 then wantEvaluation s else s
  goIdle s

/-- R182. -/
def programComplete (takes : Bool) (s : State) : State :=
  match s.store.engine with
  | .programming page data _ => endProgram page data takes s
  | .idle => s
  | .appending _ _ _ => s
  | .wiping _ _ _ => s

/-! ## Journal appends -/

/-- R177: an append whose last event this is. -/
def appendEnds (s : State) : Bool :=
  match s.store.engine with
  | .appending _ _ remaining => remaining ≤ 1
  | .idle => false
  | .programming _ _ _ => false
  | .wiping _ _ _ => false

/-- R189, R191: the append to a slot ends; for the first slot of a page the rest of the page is left erased. -/
def endAppend (slot : Fin 32) (record : List Byte) (takes : Bool) (s : State) : State :=
  let s := land takes (slotBase slot.val) record (if slot.val % 4 = 0 then 48 else 0) s
  let s := if takes then s else raise .storeFault 0 0 (halfN (256 + 24 + slot.val / 4)) s
  goIdle s

/-- R191. -/
def appendComplete (takes : Bool) (s : State) : State :=
  match s.store.engine with
  | .appending slot record _ => endAppend slot record takes s
  | .idle => s
  | .programming _ _ _ => s
  | .wiping _ _ _ => s

/-! ## Wipes -/

/-- R184: the last event of one of the steps 1 to 24. -/
def wipeStepDue (s : State) : Bool :=
  match s.store.engine with
  | .wiping page remaining _ => decide (page < 24) && (remaining - 1) % 5 == 0
  | .idle => false
  | .programming _ _ _ => false
  | .appending _ _ _ => false

/-- R184 step 1: the erase of a page ends, and the wipe goes on with the next. -/
def endWipeStep (page remaining failed : Nat) (takes : Bool) (s : State) : State :=
  let s := land takes (pageBase page) erasedPage 0 s
  let s := s.setStore { s.store with engine := .wiping (page + 1) (remaining - 1) (failed + (!takes).toNat) }
  if takes then s else queueJournal .storeFault (byteN page) (raise .storeFault 0 0 (halfN (256 * 2 + page)) s)

/-- R184. -/
def wipeStepComplete (takes : Bool) (s : State) : State :=
  match s.store.engine with
  | .wiping page remaining failed => endWipeStep page remaining failed takes s
  | .idle => s
  | .programming _ _ _ => s
  | .appending _ _ _ => s

/-- R184: the last event of the lock phase. -/
def wipeDue (s : State) : Bool :=
  match s.store.engine with
  | .wiping page remaining _ => decide (24 ≤ page) && decide (remaining ≤ 1)
  | .idle => false
  | .programming _ _ _ => false
  | .appending _ _ _ => false

/-- R184 step 2: the wipe ends. -/
def endWipe (failed : Nat) (s : State) : State :=
  let s := s.setStore { s.store with lockConfig := false, lockStandin := false, lockUser := false }
  let s := queueJournal .wipe (byteN failed) s
  let s := raise .storeDone 0 0 (halfN (256 * 255 + (failed != 0).toNat)) s
  goIdle (wantEvaluation s)

/-- R184. -/
def wipeComplete (s : State) : State :=
  match s.store.engine with
  | .wiping _ _ failed => endWipe failed s
  | .idle => s
  | .programming _ _ _ => s
  | .appending _ _ _ => s

/-! ## Step 7 -/

/-- R177: one event less remains. -/
def Engine.countDown : Engine → Engine
  | .idle => .idle
  | .programming page data remaining => .programming page data (remaining - 1)
  | .appending slot record remaining => .appending slot record (remaining - 1)
  | .wiping page remaining failed => .wiping page (remaining - 1) failed

/-- R177: an operation in progress advances by one event, and ends if its time has come. -/
def advanceStore (takes : Bool) (s : State) : State :=
  if programDue s then programComplete takes s
  else if appendEnds s then appendComplete takes s
  else if wipeStepDue s then wipeStepComplete takes s
  else if wipeDue s then wipeComplete s
  else s.setStore { s.store with engine := s.store.engine.countDown }

/-- R38 step 7: `busy` says whether the operation was in progress when the event began (R177). -/
def storeStep (busy takes : Bool) (s : State) : State :=
  takeUpJournal (if busy then advanceStore takes s else s)

/-! ## Rows -/

/-- STORE_PROGRAM_COMPLETE (R182). -/
def execStoreProgramComplete (takes : Bool) (s : State) : Host.Outcome State Fault Refusal :=
  .next (occur (programDue s) (programComplete takes) s)

/-- WIPE_STEP_COMPLETE (R184). -/
def execWipeStepComplete (takes : Bool) (s : State) : Host.Outcome State Fault Refusal :=
  .next (occur (wipeStepDue s) (wipeStepComplete takes) s)

/-- WIPE_COMPLETE (R184). -/
def execWipeComplete (s : State) : Host.Outcome State Fault Refusal :=
  .next (occur (wipeDue s) wipeComplete s)

/-- JOURNAL_APPEND_START (R178, R191). -/
def execJournalAppendStart (s : State) : Host.Outcome State Fault Refusal :=
  .next (occur (appendDue s) startAppend s)

/-- JOURNAL_APPEND_COMPLETE (R191). -/
def execJournalAppendComplete (takes : Bool) (s : State) : Host.Outcome State Fault Refusal :=
  .next (occur (appendEnds s) (appendComplete takes) s)

end Sys2Proof.Machine
end

