-- ==== Sys2Proof/Machine/WardenMs.lean ====
section
/-! DEFINITION. The warden-millisecond event (R26, R38) and the steps it contains: the clock monitor (R27, R28), the nFSAFE filter
(R153, R154), the warden's window (R144), the nHRST timer (R150) and the confirmation window (R19). -/

namespace Sys2Proof.Machine

/-! ## Step 1 and 2: counter and clock monitor -/

/-- R26, R38 step 1. -/
def countMs (s : State) : State := s.setTime { s.time with wardenMs := satInc s.time.wardenMs }

/-- R27: the history shifts, and the edge detector is cleared; one more event has counted since port ready (R28, log 17). -/
def updateHistory (xinEdge : Bool) (s : State) : State :=
  s.setTime { s.time with
    refOld := s.time.refNew
    refNew := s.time.xinSeen || xinEdge
    xinSeen := false
    sinceReady := min (s.time.sinceReady + 1) 2 }

/-- R28: whether clock substitution takes place. -/
def substDue (s : State) : Bool :=
  s.time.active == .external && !s.time.refNew && !s.time.refOld && decide (2 ≤ s.time.sinceReady)

/-- R28: clock substitution; the divider keeps its count. -/
def substitute (s : State) : State :=
  let s := s.setTime { s.time with active := .internal, subst := true }
  queueJournal .clockSubst 0x00 (raise .clockSubst 0 0 0 s)

/-- R38 step 2. -/
def clockStep (xinEdge : Bool) (s : State) : State :=
  let s := updateHistory xinEdge s
  if substDue s then substitute s else s

/-! ## Step 3: nFSAFE -/

/-- R153: the duration counts while the state is ASSERTED, before the sample is judged. -/
def countFsafe (s : State) : State :=
  if s.ward.fsafeAsserted then s.setWard { s.ward with fsafeDur := satInc s.ward.fsafeDur } else s

/-- R153: the third low sample in a row while DEASSERTED. -/
def fsafeAssertDue (s : State) : Bool :=
  s.ward.fsafeEnable && !s.ward.fsafeAsserted && !s.pins.inputs.nFsafe && decide (2 ≤ s.ward.fsafeRun)

/-- R154: to ASSERTED. -/
def fsafeAssert (s : State) : State :=
  requestStandin .fsafe (s.setWard { s.ward with fsafeAsserted := true, fsafeRun := 0, fsafeDur := 0 })

/-- R153: the third high sample in a row while ASSERTED. -/
def fsafeClearDue (s : State) : Bool :=
  s.ward.fsafeEnable && s.ward.fsafeAsserted && s.pins.inputs.nFsafe && decide (2 ≤ s.ward.fsafeRun)

/-- R153, R154: to DEASSERTED; the duration counts this event too. -/
def fsafeClear (s : State) : State :=
  let s := countFsafe s
  raise .fsafeClear 0 0 s.ward.fsafeDur (s.setWard { s.ward with fsafeAsserted := false, fsafeRun := 0 })

/-- R153: an opposing sample: low while DEASSERTED or high while ASSERTED. -/
def fsafeOpposing (s : State) : Bool := s.pins.inputs.nFsafe == s.ward.fsafeAsserted

/-- R38 step 3, R153. -/
def fsafeStep (s : State) : State :=
  if !s.ward.fsafeEnable then s
  else if fsafeAssertDue s then fsafeAssert s
  else if fsafeClearDue s then fsafeClear s
  else
    let run := if fsafeOpposing s then s.ward.fsafeRun + 1 else 0
    let s := countFsafe s
    s.setWard { s.ward with fsafeRun := run }

/-! ## Step 4: the warden's window -/

/-- R144: this event brings elapsed to T_max. -/
def timeoutDue (s : State) : Bool := s.ward.armed && (s.ward.elapsed + 1 == s.ward.tMax)

/-- R144, R148: the timeout: a LATE fault with its response, and a window without a closed phase. -/
def wardenTimeout (s : State) : State := startWindow false (wardenFault .late s)

/-- R144: this event brings elapsed to T_min of a window with a closed phase. -/
def closedPhaseEndDue (s : State) : Bool :=
  s.ward.armed && s.ward.closedPhase && (s.ward.elapsed + 1 == s.ward.tMin)

/-- R144: elapsed increases by 1; the state of R143 follows from it. -/
def passMs (s : State) : State := s.setWard { s.ward with elapsed := s.ward.elapsed + 1 }

/-- R38 step 4. -/
def wardenStep (s : State) : State :=
  if !s.ward.armed then s
  else if timeoutDue s then wardenTimeout s
  else passMs s

/-- R150: whether step 4 of this event starts or restarts the nHRST pulse. -/
def pulseStarts (s : State) : Bool :=
  timeoutDue s && s.ward.respHrst && decide (s.ward.strikes + 1 = s.ward.threshold)

/-! ## Steps 5 and 6 -/

/-- R150: this event ends the nHRST pulse. -/
def pulseEndDue (s : State) : Bool := s.ward.hrst == 1

/-- R150: the remaining time decreases by 1. -/
def countHrst (s : State) : State := s.setWard { s.ward with hrst := s.ward.hrst - 1 }

/-- R38 step 5: `started` says that step 4 of this event started the pulse. -/
def hrstStep (started : Bool) (s : State) : State := if started then s else countHrst s

/-- R19: this event ends the lifetime of the open window. -/
def expiryDue (s : State) : Bool :=
  match s.port.window with
  | none => false
  | some w => w.remaining ≤ 1

/-- R38 step 6. -/
def windowStep (s : State) : State :=
  match s.port.window with
  | none => s
  | some w =>
    if w.remaining ≤ 1 then closeWindow s
    else s.setPort { s.port with window := some { w with remaining := w.remaining - 1 } }

/-! ## The event -/

/-- R38: the seven steps at a ready port, and the end of the event. -/
def wardenMsSteps (ms : MsInputs) (s : State) : State :=
  let busy := storeBusy s
  let s := fsafeStep (clockStep ms.xinEdge (countMs s))
  let started := pulseStarts s
  settle (storeStep busy ms.takes (windowStep (hrstStep started (wardenStep s))))

/-- R26, R27: before the port is ready only the counter moves; the edge detector is not cleared. -/
def wardenMsEarly (ms : MsInputs) (s : State) : State :=
  let s := countMs s
  s.setTime { s.time with xinSeen := s.time.xinSeen || ms.xinEdge }

/-- R26, R38, R195: the warden-millisecond event; none while a reset is in effect. -/
def wardenMsEvent (ms : MsInputs) (s : State) : State :=
  match s.sys.phase with
  | .inReset => s
  | .poweringUp _ => wardenMsEarly ms s
  | .ready => wardenMsSteps ms s

/-! ## Rows -/

/-- CONFIRM_WINDOW_EXPIRY (R19). -/
def execConfirmWindowExpiry (s : State) : Host.Outcome State Fault Refusal :=
  .next (occur (expiryDue s) closeWindow s)

/-- WARDEN_MS_EVENT (R38). -/
def execWardenMsEvent (ms : MsInputs) (s : State) : Host.Outcome State Fault Refusal :=
  .next (wardenMsEvent ms (meetPins ms.pins s))

/-- CLOCK_SUBST (R28). -/
def execClockSubst (s : State) : Host.Outcome State Fault Refusal :=
  .next (occur (substDue s) substitute s)

/-- WARDEN_TIMEOUT (R144). -/
def execWardenTimeout (s : State) : Host.Outcome State Fault Refusal :=
  .next (occur (timeoutDue s) wardenTimeout s)

/-- CLOSED_PHASE_END (R144). -/
def execClosedPhaseEnd (s : State) : Host.Outcome State Fault Refusal :=
  .next (occur (closedPhaseEndDue s) passMs s)

/-- NHRST_PULSE_END (R150). -/
def execNhrstPulseEnd (s : State) : Host.Outcome State Fault Refusal :=
  .next (occur (pulseEndDue s) countHrst s)

/-- FSAFE_ASSERT (R154). -/
def execFsafeAssert (s : State) : Host.Outcome State Fault Refusal :=
  .next (occur (fsafeAssertDue s) fsafeAssert s)

/-- FSAFE_CLEAR (R154). -/
def execFsafeClear (s : State) : Host.Outcome State Fault Refusal :=
  .next (occur (fsafeClearDue s) fsafeClear s)

end Sys2Proof.Machine
end

