-- ==== Sys2Proof/Machine/Resets.lean ====
section
/-! DEFINITION. Resets, the power-up sequence and port readiness (R22, R195, R196, R198 to R201). -/

namespace Sys2Proof.Machine

/-! ## Release -/

/-- R196: the union of two sets of kinds. -/
def ResetSet.union (a b : ResetSet) : ResetSet :=
  { powerOn := a.powerOn || b.powerOn, brownout := a.brownout || b.brownout, pin := a.pin || b.pin,
    soft := a.soft || b.soft }

/-- R196: the reset cause set at a release. -/
def releasedCauses (former asserted : ResetSet) : ResetSet :=
  if asserted.powerOn || asserted.brownout then asserted else former.union asserted

/-- R195, R196: the release; the edge detector is clear at it and works from then on (R27). -/
def release (xinEdge : Bool) (pins : InPins) (s : State) : State :=
  let s := s.setSys { s.sys with
    phase := .poweringUp 0, asserted := ResetSet.none, causes := releasedCauses s.sys.causes s.sys.asserted }
  let s := s.setTime { s.time with xinSeen := xinEdge }
  meetInputs pins s

/-! ## Steps 1 to 5 (R199) -/

/-- R187: the values that step 1 applies: the record's, or the defaults. -/
def RecordClass.values : RecordClass → ConfigRecord
  | .erased => ConfigRecord.defaults
  | .valid c => c
  | .bad _ _ => ConfigRecord.defaults

/-- R203: the outcome that is kept. -/
def RecordClass.outcome : RecordClass → ConfigOutcome
  | .erased => .erased
  | .valid _ => .valid
  | .bad _ _ => .bad

/-- Step 1: the outcome, the warden's configuration (R141) and the filter lengths (R111). -/
def applyConfig (k : RecordClass) (s : State) : State :=
  let c := k.values
  let s := s.setSys { s.sys with outcome := k.outcome }
  let s := s.setWard { s.ward with
    tMin := c.tMin, tMax := c.tMax, threshold := c.threshold, respStandin := c.respStandin, respHrst := c.respHrst,
    latch := c.latch, autoArm := c.autoArm, fsafeEnable := c.fsafeEnable }
  s.setEdges { s.edges with
    lines := Vector.ofFn fun i => { s.edges.lines[i] with length := c.lengths[i] } }

/-- Step 2 (R192). -/
def applyScan (s : State) : State :=
  s.setStore { s.store with nextSlot := (scanRing s.store.pages).1, nextSeq := (scanRing s.store.pages).2 }

/-- Step 5 (R25, R30, R31, R33). -/
def startTimebase (c : ConfigRecord) (s : State) : State :=
  s.setTime { s.time with
    configured := c.source, active := c.source, subst := false, rate := c.rate, tick := 0, running := c.running }

/-! ## Steps 6 to 9 (R200) -/

/-- Warden-millisecond events during the sequence advance only the counter (R26). -/
def countMsTimes (n : Nat) (s : State) : State := Nat.repeat countMs n s

/-- Step 8, for a bad record (R187). -/
def reportConfig (k : RecordClass) (s : State) : State :=
  match k with
  | .erased => s
  | .valid _ => s
  | .bad offset reason =>
    queueJournal .configBad (byteN reason) (raise .configBad 0 0 (halfN (256 * offset + reason)) s)

/-- Step 8: the RESET record, then what a bad record reports. -/
def reportReset (k : RecordClass) (s : State) : State :=
  reportConfig k (queueJournal .reset s.sys.causes.code s)

/-- Step 7: power-up stand-in (R161, R175). -/
def enterAtPowerUp (c : ConfigRecord) (s : State) : State := if c.standin then requestStandin .powerUp s else s

/-- R22: the port becomes ready; with nCS low at that moment it goes on ignoring the transaction in progress (log 27). -/
def becomeReady (s : State) : State :=
  (s.setSys { s.sys with phase := .ready }).setPort { s.port with ignoring := !s.pins.inputs.nCs }

/-- Where the part stands when a step is done; step 9 makes the port ready (R22). -/
def stepDone (i : Nat) (s : State) : State :=
  if h : i < 9 then s.setSys { s.sys with phase := .poweringUp ⟨i, h⟩ } else becomeReady s

/-- What a step of the sequence does (R199, R200). No step but the first three reads the store: what step 1 took of page 0 is what
page 0 still holds, since no page changes before the port is ready (R177, R182). Warden milliseconds may pass just before steps 7
and 8 (log 13). -/
def powerUpStep (p : PowerUp) (i : Nat) (s : State) : State :=
  let k := classRecord (s.store.pages.page 0)
  match i with
  | 1 => applyConfig k s
  | 2 => applyScan s
  | 3 => evaluateBanks s
  | 4 => s.setChans k.values.chans
  | 5 => startTimebase k.values s
  | 6 => if k.values.autoArm then armWarden s else s
  | 7 => enterAtPowerUp k.values (countMsTimes p.msBeforeEntry s)
  | 8 => reportReset k (countMsTimes p.msBeforeRecords s)
  | _ => s

/-- A step of the sequence, done. -/
def carryOut (p : PowerUp) (s : State) (i : Nat) : State := stepDone i (powerUpStep p i s)

/-- R199, R200: the steps after the `done`-th, up to the one that the sequence reaches before the next event is served, and the end
of the event. -/
def powerUpFrom (done : Nat) (p : PowerUp) (s : State) : State :=
  settle ((List.range' (done + 1) (p.steps.val - done)).foldl (carryOut p) s)

/-- R195, R199: the sequence begins at the release of a reset, or goes on; edges of XIN meanwhile are seen (R27). -/
def powerUp (p : PowerUp) (s : State) : State :=
  match s.sys.phase with
  | .inReset => powerUpFrom 0 p (release p.xinEdge p.pins s)
  | .poweringUp done =>
    if done.val < p.steps.val then
      powerUpFrom done.val p (meetInputs p.pins (s.setTime { s.time with xinSeen := s.time.xinSeen || p.xinEdge }))
    else s
  | .ready => s

/-! ## Rows -/

/-- POWER_ON_RESET (R195). -/
def execPowerOnReset (s : State) : Host.Outcome State Fault Refusal := .next (takeReset .powerOn s)

/-- BROWNOUT_RESET (R195). -/
def execBrownoutReset (s : State) : Host.Outcome State Fault Refusal := .next (takeReset .brownout s)

/-- PIN_RESET (R195). -/
def execPinReset (s : State) : Host.Outcome State Fault Refusal := .next (takeReset .pin s)

/-- SOFT_RESET: nCS rises, and a pending soft reset takes effect (R2, R198). -/
def execSoftReset (s : State) : Host.Outcome State Fault Refusal :=
  .next (meetPins { s.pins.inputs with nCs := true } s)

/-- POWER_UP_SEQUENCE (R195, R199, R200): it follows the release of a reset, and may go on in a further row. -/
def execPowerUpSequence (p : PowerUp) (s : State) : Host.Outcome State Fault Refusal := .next (powerUp p s)

/-- PORT_READY (R22, R200): step 9, when the other eight are done. -/
def execPortReady (s : State) : Host.Outcome State Fault Refusal :=
  .next (if s.sys.phase = .poweringUp 8 then settle (becomeReady s) else s)

end Sys2Proof.Machine
end

