-- ==== Sys2Proof/Machine/Ticks.lean ====
section
/-! DEFINITION. The tick (R36) with its stand-in stage (R168, R169), the periods of the active source that lead to it (R30), and
the steps of a tick that are rows of their own. -/

namespace Sys2Proof.Machine

/-! ## Stage 1 -/

/-- R104: the frozen-duration counter advances while the table is frozen, up to 2^30. -/
def countFrozen (s : State) : State :=
  if s.cues.frozen then s.setCues { s.cues with frozenDur := min (s.cues.frozenDur + 1) Config.frozenMax } else s

/-- R30, R31, R36 stage 1: the tick count becomes T, the divider restarts, and the frozen duration counts. -/
def countTick (s : State) : State :=
  countFrozen (s.setTime { s.time with tick := s.time.tick + 1, divider := 0 })

/-! ## Stage 4 -/

/-- R168 step 1: one step of the program writes its level kind to the stand-in-owned channels of its mask. -/
def applyStep (s : State) (x : ProgramStep) : State :=
  driveAndCut (x.mask &&& maskOf Channel.owned s.chans) x.kind none s

/-- R168, R169: whether the next advance reaches the cycle length. -/
def cycleEndDue (s : State) : Bool :=
  match s.stand.active with
  | none => false
  | some x => s.stand.state == .run && s.stand.pos + 1 == x.length

/-- R169: the end of the cycle: CYCLE begins again, ONCE is ENDED with its position at the cycle length. -/
def cycleEnd (s : State) : State :=
  match s.stand.active with
  | none => s
  | some x =>
    match x.mode with
    | .cycle => s.setStand { s.stand with pos := 0 }
    | .once => s.setStand { s.stand with state := .ended, pos := x.length }

/-- R168 step 2. -/
def advance (s : State) : State :=
  if cycleEndDue s then cycleEnd s else s.setStand { s.stand with pos := s.stand.pos + 1 }

/-- R168: stage 4; it runs only in RUN. -/
def standStage (s : State) : State :=
  if s.stand.state = .run then
    match s.stand.active with
    | none => s
    | some x => advance ((x.steps.filter fun y => y.offset == s.stand.pos).foldl applyStep s)
  else s

/-! ## The tick -/

/-- Whether ticks are processed: the port is ready and the timebase is RUNNING (R33). -/
def ticking (s : State) : Bool := s.sys.phase == .ready && s.time.running

/-- R36: tick T, stages 1 to 6; stages 5 and 6 are the end of the event. -/
def tickStages (s : State) : State := settle (standStage (cueStage (edgeStage (countTick s))))

/-- R33, R36: a tick, if one can be processed. -/
def tick (s : State) : State := if ticking s then tickStages s else s

/-- R30: the active-source periods of a tick at a rate code. -/
def periodsPerTick (rate : Fin 4) : Nat := 8 * 10 ^ rate.val

/-- R27: a period of XIN is a rising edge that the detector sees, whatever the timebase does, from the release of a reset on. -/
def seePeriod (s : State) : State :=
  if s.time.active = .external ∧ s.sys.phase ≠ .inReset then s.setTime { s.time with xinSeen := true } else s

/-- R30, R33: while ticks are processed the divider counts the period, and at the period count of the rate a tick becomes due
with the input pins as they are. -/
def dividePeriod (s : State) : State :=
  if ticking s then
    if s.time.divider + 1 < periodsPerTick s.time.rate then s.setTime { s.time with divider := s.time.divider + 1 }
    else arrive (.tick s.pins.inputs) (s.setTime { s.time with divider := 0 })
  else s

/-- One period of the active source (log 2). -/
def sourcePeriod (s : State) : State := dividePeriod (seePeriod s)

/-- A step of a tick as a row: it takes place when ticks are processed and it is due (log 5). -/
def inTick (due : Bool) (effect : State → State) (s : State) : State := occur (s.time.running && due) effect s

/-! ## Rows -/

/-- TICK (R36). -/
def execTick (pins : InPins) (s : State) : Host.Outcome State Fault Refusal := .next (tick (meetPins pins s))

/-- QUALIFIED_EDGE (R114). -/
def execQualifiedEdge (line : Fin 8) (s : State) : Host.Outcome State Fault Refusal :=
  .next (inTick s.edges.lines[line].edge.isSome (qualifyEdge line) s)

/-- TRAILING_EDGE (R86). -/
def execTrailingEdge (slot : Fin 48) (s : State) : Host.Outcome State Fault Refusal :=
  .next (inTick (trailingDue s slot) (trailingEdge slot) s)

/-- LEADING_ACTION (R90); R98 compares the leading actions of a whole tick, so one alone has no conflict. -/
def execLeadingAction (slot : Fin 48) (s : State) : Host.Outcome State Fault Refusal :=
  .next (inTick (leadingDue s slot) (fun s => (leadingAction slot (s, Led.start)).1) s)

/-- CUE_OVERDUE (R68, R85). -/
def execCueOverdue (slot : Fin 48) (s : State) : Host.Outcome State Fault Refusal :=
  .next (inTick (overdueDue s slot) (markOverdue slot) s)

/-- STANDIN_CYCLE_END (R169). -/
def execStandinCycleEnd (s : State) : Host.Outcome State Fault Refusal :=
  .next (inTick (cycleEndDue s) cycleEnd s)

end Sys2Proof.Machine
end

