-- ==== Sys2Proof/Machine/Dispatch.lean ====
section
/-! DEFINITION. The meaning of every command: one arm per constructor of Instr. -/

namespace Sys2Proof.Machine

def exec (i : Instr) (s : State) : Host.Outcome State Fault Refusal :=
  match i with
  | .sysStatus f => Sys2Proof.Machine.execSysStatus f s
  | .sysIdentify f => Sys2Proof.Machine.execSysIdentify f s
  | .sysCause f => Sys2Proof.Machine.execSysCause f s
  | .sysResetReq f => Sys2Proof.Machine.execSysResetReq f s
  | .sysResetConfirm f => Sys2Proof.Machine.execSysResetConfirm f s
  | .sysUnstick f => Sys2Proof.Machine.execSysUnstick f s
  | .timeRead f => Sys2Proof.Machine.execTimeRead f s
  | .timeRun f => Sys2Proof.Machine.execTimeRun f s
  | .timeStop f => Sys2Proof.Machine.execTimeStop f s
  | .timeSet f => Sys2Proof.Machine.execTimeSet f s
  | .timeRate f => Sys2Proof.Machine.execTimeRate f s
  | .timeRestore f => Sys2Proof.Machine.execTimeRestore f s
  | .cueAdd f => Sys2Proof.Machine.execCueAdd f s
  | .cueCancel f => Sys2Proof.Machine.execCueCancel f s
  | .cueAmend f => Sys2Proof.Machine.execCueAmend f s
  | .cueQuery f => Sys2Proof.Machine.execCueQuery f s
  | .cueList f => Sys2Proof.Machine.execCueList f s
  | .cueHooks f => Sys2Proof.Machine.execCueHooks f s
  | .cuePurge f => Sys2Proof.Machine.execCuePurge f s
  | .cueFreeze f => Sys2Proof.Machine.execCueFreeze f s
  | .cueThaw f => Sys2Proof.Machine.execCueThaw f s
  | .cueStatus f => Sys2Proof.Machine.execCueStatus f s
  | .chanSetup f => Sys2Proof.Machine.execChanSetup f s
  | .chanForce f => Sys2Proof.Machine.execChanForce f s
  | .chanSeal f => Sys2Proof.Machine.execChanSeal f s
  | .chanRead f => Sys2Proof.Machine.execChanRead f s
  | .edgeSetup f => Sys2Proof.Machine.execEdgeSetup f s
  | .edgePolicy f => Sys2Proof.Machine.execEdgePolicy f s
  | .edgeRead f => Sys2Proof.Machine.execEdgeRead f s
  | .edgeFlush f => Sys2Proof.Machine.execEdgeFlush f s
  | .edgeStatus f => Sys2Proof.Machine.execEdgeStatus f s
  | .noteFirst f => Sys2Proof.Machine.execNoteFirst f s
  | .noteNext f => Sys2Proof.Machine.execNoteNext f s
  | .noteEnable f => Sys2Proof.Machine.execNoteEnable f s
  | .noteStatus f => Sys2Proof.Machine.execNoteStatus f s
  | .wardSetup f => Sys2Proof.Machine.execWardSetup f s
  | .wardArm f => Sys2Proof.Machine.execWardArm f s
  | .wardBeat f => Sys2Proof.Machine.execWardBeat f s
  | .wardDisarmReq f => Sys2Proof.Machine.execWardDisarmReq f s
  | .wardDisarmConfirm f => Sys2Proof.Machine.execWardDisarmConfirm f s
  | .wardStatus f => Sys2Proof.Machine.execWardStatus f s
  | .standEnter f => Sys2Proof.Machine.execStandEnter f s
  | .standReturnReq f => Sys2Proof.Machine.execStandReturnReq f s
  | .standReturnConfirm f => Sys2Proof.Machine.execStandReturnConfirm f s
  | .standStatus f => Sys2Proof.Machine.execStandStatus f s
  | .storeRead f => Sys2Proof.Machine.execStoreRead f s
  | .storeLoad f => Sys2Proof.Machine.execStoreLoad f s
  | .storeClear f => Sys2Proof.Machine.execStoreClear f s
  | .storeOpen f => Sys2Proof.Machine.execStoreOpen f s
  | .storeProgram f => Sys2Proof.Machine.execStoreProgram f s
  | .storeLock f => Sys2Proof.Machine.execStoreLock f s
  | .storeWipe f => Sys2Proof.Machine.execStoreWipe f s
  | .storeStatus f => Sys2Proof.Machine.execStoreStatus f s
  | .storeJournal f => Sys2Proof.Machine.execStoreJournal f s
  | .frameAborted t => Sys2Proof.Machine.execFrameAborted t s
  | .refusedTransaction t => Sys2Proof.Machine.execRefusedTransaction t s
  | .lengthOutOfRange t => Sys2Proof.Machine.execLengthOutOfRange t s
  | .checkFailed t => Sys2Proof.Machine.execCheckFailed t s
  | .replay t => Sys2Proof.Machine.execReplay t s
  | .unknownCommandCode t => Sys2Proof.Machine.execUnknownCommandCode t s
  | .confirmWindowExpiry => Sys2Proof.Machine.execConfirmWindowExpiry s
  | .tick pins => Sys2Proof.Machine.execTick pins s
  | .wardenMsEvent ms => Sys2Proof.Machine.execWardenMsEvent ms s
  | .clockSubst => Sys2Proof.Machine.execClockSubst s
  | .qualifiedEdge line => Sys2Proof.Machine.execQualifiedEdge line s
  | .trailingEdge slot => Sys2Proof.Machine.execTrailingEdge slot s
  | .leadingAction slot => Sys2Proof.Machine.execLeadingAction slot s
  | .cueOverdue slot => Sys2Proof.Machine.execCueOverdue slot s
  | .wardenTimeout => Sys2Proof.Machine.execWardenTimeout s
  | .closedPhaseEnd => Sys2Proof.Machine.execClosedPhaseEnd s
  | .nhrstPulseEnd => Sys2Proof.Machine.execNhrstPulseEnd s
  | .fsafeAssert => Sys2Proof.Machine.execFsafeAssert s
  | .fsafeClear => Sys2Proof.Machine.execFsafeClear s
  | .standinCycleEnd => Sys2Proof.Machine.execStandinCycleEnd s
  | .storeProgramComplete takes => Sys2Proof.Machine.execStoreProgramComplete takes s
  | .wipeStepComplete takes => Sys2Proof.Machine.execWipeStepComplete takes s
  | .wipeComplete => Sys2Proof.Machine.execWipeComplete s
  | .journalAppendStart => Sys2Proof.Machine.execJournalAppendStart s
  | .journalAppendComplete takes => Sys2Proof.Machine.execJournalAppendComplete takes s
  | .powerOnReset => Sys2Proof.Machine.execPowerOnReset s
  | .brownoutReset => Sys2Proof.Machine.execBrownoutReset s
  | .pinReset => Sys2Proof.Machine.execPinReset s
  | .softReset => Sys2Proof.Machine.execSoftReset s
  | .powerUpSequence p => Sys2Proof.Machine.execPowerUpSequence p s
  | .portReady => Sys2Proof.Machine.execPortReady s

end Sys2Proof.Machine
end

