-- ==== Sys2Proof/Safety.lean ====
section
/-! DEFINITION. The words in which claims about the part are stated: when a command is executed and how it is concluded, what a
command leaves alone, and the invariants that every step keeps. -/

namespace Sys2Proof.Machine

/-- The state after a number of steps, if none of them stops. -/
def stepTimes : Nat → State → Option State
  | 0, s => some s
  | k + 1, s =>
    match step s with
    | .next t => stepTimes k t
    | .fault _ => none
    | .refused _ => none

/-! ## Commands -/

/-- R22: the port serves transactions: it is ready, no soft reset waits for nCS, and no transaction that was in progress when it
became ready goes on. -/
def Serving (s : State) : Prop := s.sys.phase = .ready ∧ s.sys.softPending = false ∧ s.port.ignoring = false

/-- R12, R22: a command's frame is executed, and neither ignored nor replayed: the port serves transactions, and the replay cache
does not hold its sequence byte. -/
def Served (f : Frame) (s : State) : Prop := Serving s ∧ isReplay f.seq s = false

/-- The state that an event meets: the input pins are as they are at the event, MISO is driven while nCS is low (R1), and with nCS
high no transaction goes on (R22). -/
def met (pins : InPins) (s : State) : State :=
  (s.setPins { s.pins with inputs := pins, miso := if pins.nCs = true then .hiZ else .driven }).setPort
    { s.port with ignoring := if pins.nCs = true then false else s.port.ignoring }

/-- R22: the port becomes ready, and with nCS low goes on ignoring the transaction in progress. -/
def madeReady (s : State) : State :=
  (s.setSys { s.sys with phase := .ready }).setPort
    { s.port with ignoring := if s.pins.inputs.nCs = true then false else true }

/-- R1: the bits of a byte in the order in which they are sent. -/
def msbFirst (b : Byte) : List Bool :=
  [b.getLsbD 7, b.getLsbD 6, b.getLsbD 5, b.getLsbD 4, b.getLsbD 3, b.getLsbD 2, b.getLsbD 1, b.getLsbD 0]

/-- R1: a transaction of some bytes and further bits, between a falling and a rising edge of nCS. -/
def sent (bytes : List Byte) (tail : List Bool) (fresh : Bool) (pins : InPins) : Transaction :=
  { clocks := (bytes.flatMap msbFirst ++ tail).map fun b => { nCs := false, mosi := b }, fresh := fresh, pins := pins }

/-- R3: the bytes that MISO sends after a frame of `n` bytes, from the beginning of the transaction on. -/
def misoAfter (n fill : Nat) (response : List Byte) : List Byte :=
  List.replicate n 0x00 ++ List.replicate fill 0x00 ++ [0x5A] ++ response

/-- R3: the level of MISO at each of some rising edges of SCK, by the bytes it sends; 00h beyond them. -/
def carried (clocks : Nat) (bytes : List Byte) : List Bool :=
  ((bytes ++ List.replicate clocks 0x00).flatMap msbFirst).take clocks

/-- R3, R18: the port when a response to a frame of `n` bytes has been formed in a transaction of some rising edges of SCK, with
the flags of the state that results; with nCS high none of it is clocked out (R2). -/
def answered (n clocks : Nat) (pins : InPins) (seq : Byte) (st : Status) (payload : List Byte) (replayed : Bool)
    (u : State) : State :=
  let response := responseFrame seq st (summaryFlags u replayed) payload
  (u.setPort { u.port with
    response := response
    miso := if pins.nCs = true then List.replicate clocks false
      else carried clocks (misoAfter n (markerFill u.free) response) }).useFree

/-- R12, R13, R18, R19: the end of an evaluated command that has left the part as `u`: the event ends, the window is as given,
the cache holds the reply, and the response is formed. -/
def concludedAfter (n clocks : Nat) (pins : InPins) (seq : Byte) (window : Option Window) (st : Status)
    (payload : List Byte) (u : State) : State :=
  let v := settle u
  answered n clocks pins seq st payload false
    (v.setPort { v.port with window := window, cache := some { seq := seq, status := st, payload := payload } })

/-- The rising edges of SCK in the transaction of a command's frame. -/
def frameClocks (f : Frame) : Nat := 8 * (f.params.length + 4) + f.fill

/-- `concludedAfter` for the frame of a command row. -/
def concluded (f : Frame) (window : Option Window) (st : Status) (payload : List Byte) (u : State) : State :=
  concludedAfter (f.params.length + 4) (frameClocks f) f.pins f.seq window st payload u

/-- An executed command that is answered OK and opens no window. -/
def granted (f : Frame) (payload : List Byte) (u : State) : State := concluded f none .ok payload u

/-- An executed request that is answered OK: its window is open with the full lifetime (R19). -/
def opened (f : Frame) (k : WindowKind) (u : State) : State :=
  concluded f (some { kind := k, remaining := 10 }) .ok [] u

/-- An executed command that is refused: its block changes nothing (R17), and no window is left open (R20, R21). -/
def refusedWith (f : Frame) (st : Status) (s : State) : State := concluded f none st [] (met f.pins s)

/-- A byte by its bits as the manual lists them, bit 0 first; a bit not listed is 0. -/
def Bits (b : Byte) (bits : List Bool) : Prop := ∀ i : Fin 8, b.getLsbD i.val = bits.getD i.val false

/-- A reading command without parameters: it gives its payload and changes nothing; with parameters, ERR_FORMAT. -/
def Reads (row : Frame → Instr) (f : Frame) (s : State) (payload : List Byte) : Prop :=
  exec (row f) s = .next (if f.params = [] then granted f payload (met f.pins s) else refusedWith f .format s)

/-- How many slots hold a cue in a slot state, by the state's code in CUE.QUERY (R80, R83). -/
def slotsIn (code : Byte) (s : State) : Nat :=
  (List.finRange 48).countP fun n => match s.cueAt n with | none => false | some c => c.wait.code == code

/-- A three-byte field, most significant byte first. -/
def be24 (x : BitVec 24) : List Byte := [x.extractLsb' 16 8, x.extractLsb' 8 8, x.extractLsb' 0 8]

/-- Bank and generation of an image that may be none (Table 9-2). -/
def imageFields : Option Image → List Byte
  | none => [0x00, 0x00, 0x00]
  | some x => x.bank.code :: be16 x.gen

/-- Mode, cycle length and step count of an image that may be none (Table 9-2). -/
def programFields : Option Image → List Byte
  | none => [0x00, 0x00, 0x00, 0x00, 0x00]
  | some x => x.mode.code :: be24 (BitVec.ofNat 24 x.length) ++ [byteN x.steps.length]

/-- Page, origin and remaining events of the engine (Table 10-6). -/
def operationFields : Engine → List Byte
  | .idle => [0x00, 0x00, 0x00]
  | .programming page _ left => [byteN page.val, 0x00, byteN left]
  | .appending slot _ left => [byteN (24 + slot.val / 4), 0x01, byteN left]
  | .wiping page left _ => [byteN page, 0x00, byteN left]

/-- R143: the warden's state as WARD.STATUS gives it. -/
def wardenState (w : Warden) : Byte :=
  if w.armed = false then 0x00 else if w.closedPhase = true ∧ w.elapsed.toNat < w.tMin.toNat then 0x01 else 0x02

/-- Table 1-5, group SYS: each code with the row of its command. -/
def sysRows : List (Byte × (Frame → Instr)) :=
  [(0x00, Instr.sysStatus), (0x01, Instr.sysIdentify), (0x02, Instr.sysCause), (0x03, Instr.sysResetReq),
   (0x04, Instr.sysResetConfirm), (0x05, Instr.sysUnstick)]

/-- Table 1-5, group TIME: each code with the row of its command. -/
def timeRows : List (Byte × (Frame → Instr)) :=
  [(0x10, Instr.timeRead), (0x11, Instr.timeRun), (0x12, Instr.timeStop), (0x13, Instr.timeSet), (0x14,
   Instr.timeRate), (0x15, Instr.timeRestore)]

/-- Table 1-5, group CUE: each code with the row of its command. -/
def cueRows : List (Byte × (Frame → Instr)) :=
  [(0x20, Instr.cueAdd), (0x21, Instr.cueCancel), (0x22, Instr.cueAmend), (0x23, Instr.cueQuery), (0x24,
   Instr.cueList), (0x25, Instr.cueHooks), (0x26, Instr.cuePurge), (0x27, Instr.cueFreeze), (0x28,
   Instr.cueThaw), (0x29, Instr.cueStatus)]

/-- Table 1-5, group CHAN: each code with the row of its command. -/
def chanRows : List (Byte × (Frame → Instr)) :=
  [(0x30, Instr.chanSetup), (0x31, Instr.chanForce), (0x32, Instr.chanSeal), (0x33, Instr.chanRead)]

/-- Table 1-5, group EDGE: each code with the row of its command. -/
def edgeRows : List (Byte × (Frame → Instr)) :=
  [(0x40, Instr.edgeSetup), (0x41, Instr.edgePolicy), (0x42, Instr.edgeRead), (0x43, Instr.edgeFlush), (0x44,
   Instr.edgeStatus)]

/-- Table 1-5, group NOTE: each code with the row of its command. -/
def noteRows : List (Byte × (Frame → Instr)) :=
  [(0x50, Instr.noteFirst), (0x51, Instr.noteNext), (0x52, Instr.noteEnable), (0x53, Instr.noteStatus)]

/-- Table 1-5, group WARD: each code with the row of its command. -/
def wardRows : List (Byte × (Frame → Instr)) :=
  [(0x60, Instr.wardSetup), (0x61, Instr.wardArm), (0x62, Instr.wardBeat), (0x63, Instr.wardDisarmReq), (0x64,
   Instr.wardDisarmConfirm), (0x65, Instr.wardStatus)]

/-- Table 1-5, group STAND: each code with the row of its command. -/
def standRows : List (Byte × (Frame → Instr)) :=
  [(0x70, Instr.standEnter), (0x71, Instr.standReturnReq), (0x72, Instr.standReturnConfirm), (0x73,
   Instr.standStatus)]

/-- Table 1-5, group STORE: each code with the row of its command. -/
def storeRows : List (Byte × (Frame → Instr)) :=
  [(0x80, Instr.storeRead), (0x81, Instr.storeLoad), (0x82, Instr.storeClear), (0x83, Instr.storeOpen), (0x84,
   Instr.storeProgram), (0x85, Instr.storeLock), (0x86, Instr.storeWipe), (0x87, Instr.storeStatus), (0x88,
   Instr.storeJournal)]

/-- Table 1-5: each code with the row of its command. -/
def catalogue : List (Byte × (Frame → Instr)) :=
  List.flatten
    [sysRows, timeRows, cueRows, chanRows, edgeRows, noteRows, wardRows, standRows, storeRows]

/-- The rows of a transaction as the pins see it. -/
def transactionRows (t : Transaction) : List Instr :=
  [.frameAborted t, .refusedTransaction t, .lengthOutOfRange t, .checkFailed t, .replay t, .unknownCommandCode t]

/-- A counter of sixteen bits that has counted once more and stops at 65535 (R14, R120, R131, R133). -/
def countedOnce (x : Half) : Half := BitVec.ofNat 16 (min (x.toNat + 1) 65535)

/-- R2: the frame length that a first byte selects. -/
def clippedLength (b : Byte) : Nat := max 4 (min b.toNat 28)

/-- A transaction that produces no response (R3): nothing but the port's output changes. -/
def unanswered (clocks : Nat) (u : State) : State :=
  u.setPort { u.port with response := [], miso := List.replicate clocks false }

/-- Table 1-5a: the window that a request's code opens. -/
def windowOpenedBy (code : Byte) : Option WindowKind :=
  if code = 0x03 then some .reset else if code = 0x63 then some .disarm else if code = 0x71 then some .goBack
  else if code = 0x83 then some .store else none

/-- Table 1-5a: the window that a completion's code needs. -/
def windowNeededBy (code : Byte) : Option WindowKind :=
  if code = 0x04 then some .reset else if code = 0x64 then some .disarm else if code = 0x72 then some .goBack
  else if code = 0x84 ∨ code = 0x86 then some .store else none

/-! ## Cue records -/

/-- Table 4-3: the trigger data of a cue. -/
def triggerBytes : Trigger → List Byte
  | .atTime due => be32 due
  | .hook line edge delay =>
    [byteN line.val, match edge with | .rising => 0x00 | .falling => 0x01 | .either => 0x02] ++ be16 delay

/-- Table 4-3: the twenty parameter bytes of CUE.ADD for a cue. -/
def cueBytes (c : Cue) : List Byte :=
  [c.controlByte] ++ triggerBytes c.trigger ++ be16 c.mask ++ [c.action.code] ++ be24 c.width ++ be16 c.occurrences ++
    be32 c.period ++ [c.guardByte] ++ be16 c.tag

/-- R63 to R65: the fields of a cue that CUE.ADD accepts. -/
def Cue.acceptable (c : Cue) : Prop :=
  (c.isHook = false → c.retrigger = false ∧ c.rearm = false) ∧
  (if c.action = .notify then c.mask = 0 else c.mask ≠ 0) ∧
  (if c.action.pulse then c.width ≠ 0 else c.width = 0) ∧
  (c.occurrences ≠ 1 → 2 ≤ c.period.toNat ∧ c.period.toNat ≤ 16777216 ∧
    (c.action.pulse = true → c.width.toNat < c.period.toNat))

/-- Table 4-4: the series state at CUE.ADD, before the late rule. -/
def Cue.fresh (c : Cue) : Prop :=
  c.remaining = c.occurrences ∧ c.begun = false ∧ c.fired = 0 ∧
    c.wait = match c.trigger with
      | .atTime due => .armed due due false
      | .hook _ _ _ => .hooked

/-- R32: a due tick that counts as late. -/
abbrev Late (now due : Tick) : Prop := (due - now).toNat = 0 ∨ 2 ^ 31 ≤ (due - now).toNat

/-- R32: a due tick beyond the horizon. -/
abbrev BeyondHorizon (now due : Tick) : Prop := 2 ^ 30 < (due - now).toNat ∧ (due - now).toNat < 2 ^ 31

/-- R106, R107: how many occurrences a cue misses that is accepted late under LATE_FIRE: the grid ticks, the first one counted
out, up to the cutoff; in a limited series all but the last remaining one at most. -/
def lateMissed (c : Cue) (now due : Tick) : Nat :=
  if c.occurrences = 1 then 0
  else
    let cutoff := if c.action.pulse = true then now + 1 + c.width.setWidth 32 else now + 1
    let grid := (cutoff - due).toNat / c.period.toNat
    if c.occurrences = 0 then grid else min grid (c.remaining.toNat - 1)

/-- R107, R109: a cue accepted late under LATE_FIRE, in its slot and in the due list at the tick after the tick count. -/
def acceptedLate (n : Fin 48) (c : Cue) (due : Tick) (s : State) : State :=
  let k := lateMissed c s.time.tick due
  let t := s.setCue n { c with
    trigger := .atTime due
    wait := .armed (s.time.tick + 1) (due + BitVec.ofNat 32 k * c.period) false
    begun := c.begun || k != 0
    remaining := if c.occurrences = 0 then c.remaining else c.remaining - halfN k }
  place n (if k = 0 then t
    else raise .missed (handleOf s n) c.tag (satHalf k)
      (t.setCues { t.cues with missed := s.cues.missed + BitVec.ofNat 32 k }))

/-- R109: the missed occurrences of the cue of a slot counted, and reported if there are any. -/
def missedReported (n : Fin 48) (c : Cue) (k : Nat) (s : State) : State :=
  if k = 0 then s
  else raise .missed (handleOf s n) c.tag (halfN (min k 65535))
    (s.setCues { s.cues with missed := s.cues.missed + BitVec.ofNat 32 k })

/-- R106: the cutoff of the late rule. -/
def cutoffOf (c : Cue) (now : Tick) : Tick :=
  match c.late with
  | .skip => now
  | .fire => if c.action.pulse = true then now + 1 + c.width.setWidth 32 else now + 1

/-- R74, R79: a cue accepted at a due tick ahead, in its slot and in the due list. -/
def acceptedAhead (n : Fin 48) (c : Cue) (due : Tick) (s : State) : State :=
  place n (s.setCue n { c with trigger := .atTime due, wait := .armed due due false })

/-- R75: the payload of CUE.ADD and CUE.AMEND for an ARMED cue. -/
def armedPayload (h : Half) (next : Tick) (missed : Nat) : List Byte :=
  be16 h ++ [0x01] ++ be32 next ++ be16 (satHalf missed)

/-- The cue is IN_PULSE. -/
def Cue.inPulse (c : Cue) : Bool :=
  match c.wait with
  | .armed _ _ _ => false
  | .inPulse _ _ _ _ => true
  | .hooked => false

/-- The cue with its ending mark set (R77). -/
def Cue.marked (c : Cue) : Cue :=
  match c.wait with
  | .armed _ _ _ => c
  | .inPulse trail sched mask _ => { c with wait := .inPulse trail sched mask true }
  | .hooked => c

/-- R78: the cue table after the cues of some slots were cancelled, those that are to end left in their slots with the ending
mark, the others freed. -/
def purged (selected ending : Fin 48 → Bool) (t : CueTable) : CueTable :=
  { t with
    slots := Vector.ofFn fun n =>
      if selected n then
        if ending n then { t.slots[n] with cue := t.slots[n].cue.map Cue.marked }
        else { gen := t.slots[n].gen + 1, cue := none }
      else t.slots[n]
    due := t.due.filter fun n => !(selected n && !ending n) }

/-! ## Cuts, notices and edge records -/

/-- R48: the cue with the channels of a mask taken out of its pending trailing mask. -/
def Cue.without (m : Half) (c : Cue) : Cue :=
  match c.wait with
  | .armed _ _ _ => c
  | .inPulse trail sched mask ending => { c with wait := .inPulse trail sched (mask &&& ~~~m) ending }
  | .hooked => c

/-- R99: the CUT notice that a cutting write to the channels of a mask raises for the cue of a slot, if it takes any. -/
def cutNotice (m : Half) (s : State) (n : Fin 48) : Option Raised :=
  match s.cueAt n with
  | none => none
  | some c =>
    if c.pending &&& m = 0 then none
    else some { cls := .cut, handle := handleOf s n, tag := c.tag, stamp := s.time.tick, detail := c.pending &&& m }

/-- R99: how many channels such a write takes from the cue of a slot. -/
def cutCount (m : Half) (s : State) (n : Fin 48) : Nat :=
  match s.cueAt n with
  | none => 0
  | some c => maskCount (c.pending &&& m)

/-- R48, R99: a cutting write to the channels of a mask, made by no cue: every pending trailing mask loses them, the cut total
counts them, and the cut cues are notified in ascending slot order. -/
def cutEverywhere (m : Half) (s : State) : State :=
  (s.setCues { s.cues with
    slots := Vector.ofFn fun n => { s.cues.slots[n] with cue := s.cues.slots[n].cue.map (Cue.without m) }
    cut := s.cues.cut + BitVec.ofNat 32 ((List.finRange 48).map (cutCount m s)).sum }).setNotes
      { s.notes with raised := List.append s.notes.raised ((List.finRange 48).filterMap (cutNotice m s)) }

/-- R44: the level after a write, by the table. -/
def levelAfter : LevelKind → Level → Level
  | .high, _ => .high
  | .low, _ => .low
  | .flt, _ => .flt
  | .toggle, .high => .low
  | .toggle, .low => .high
  | .toggle, .flt => .flt

/-- Table 7-2: the thirteen bytes of a notice. -/
def noticeBytes (n : Notice) : List Byte :=
  be16 n.seq ++ [n.cls.code] ++ be16 n.handle ++ be16 n.tag ++ be32 n.stamp ++ be16 n.detail

/-- R135: the fifteen bytes of NOTE.FIRST and NOTE.NEXT. -/
def headBytes (u : NoticeUnit) (now : Tick) : List Byte :=
  (match u.urgent, u.routine with
    | n :: _, _ => noticeBytes n
    | [], n :: _ => noticeBytes n
    | [], [] => be16 u.seq ++ [0x00, 0x00, 0x00, 0x00, 0x00] ++ be32 now ++ [0x00, 0x00]) ++
  [byteN u.urgent.length, byteN u.routine.length]

/-- R134, R136: the notice unit after NOTE.NEXT has retired the head of one lane. -/
def retired (fromUrgent : Bool) (u : NoticeUnit) (now : Tick) : NoticeUnit :=
  let mark (cls : NoticeClass) (dropped : Half) : Notice :=
    { seq := u.seq, cls := cls, handle := 0, tag := 0, stamp := now, detail := dropped }
  if fromUrgent = true then
    if u.urgentDropped = 0 then { u with urgent := u.urgent.tail }
    else
      { u with
        urgent := List.append u.urgent.tail [mark .urgentOverflow u.urgentDropped]
        seq := u.seq + 1, urgentDropped := 0 }
  else if u.routineDropped = 0 then { u with routine := u.routine.tail }
  else
    { u with
      routine := List.append u.routine.tail [mark .routineOverflow u.routineDropped]
      seq := u.seq + 1, routineDropped := 0 }

/-- R128, R131, R133: the notice unit after a notice of a sticky class was raised, by the class's code, its latch and counter, where
those are put, and the detail it would be queued with. -/
def stickyEntered (code : Nat) (k : Sticky) (put : Sticky → NoticeUnit → NoticeUnit) (detail : Half) (r : Raised)
    (u : NoticeUnit) : NoticeUnit :=
  let count := countedOnce k.count
  let queued : Notice :=
    { seq := u.seq, cls := r.cls, handle := r.handle, tag := r.tag, stamp := r.stamp, detail := detail }
  if u.enables.getLsbD code = false then u
  else if k.latch = true then put { latch := true, count := count } u
  else if 16 ≤ u.routine.length then
    put { latch := false, count := count } { u with routineDropped := countedOnce u.routineDropped }
  else
    put { latch := true, count := count } { u with routine := List.append u.routine [queued], seq := u.seq + 1 }

/-! ## Warden, stand-in and store -/

/-- The stand-in-owned channels as a mask. -/
def ownedMask (s : State) : Half := BitVec.ofFnLE fun i : Fin 16 => s.chans[i].owned

/-- R160: a cause added to a set. -/
def withCause (c : Cause) (x : Causes) : Causes :=
  { warden := x.warden || c == .warden, command := x.command || c == .command, fsafe := x.fsafe || c == .fsafe,
    powerUp := x.powerUp || c == .powerUp }

/-- R162 steps 1 to 5: the stand-in engine, the warden's indicator, the timebase and the channels after an entry from HOST. -/
def enteredBlocks (c : Cause) (s : State) : State :=
  let x := s.stand
  (((s.setStand { x with
    state := match x.standby with | none => .safe | some _ => .run
    causes := withCause c x.causes, active := x.standby, pos := 0, masked := 0, entryStamp := s.time.tick }).setWard
      { s.ward with beatSince := false }).setTime
        (if s.time.running = true then s.time else { s.time with running := true, divider := 0 })).setChans
          (Vector.ofFn fun i =>
            if s.chans[i].owned = true then { s.chans[i] with level := s.chans[i].safe } else s.chans[i])

/-- R163: the detail of STANDIN_ENTER: state after the entry, active bank, cause. -/
def enterDetail (c : Cause) (s : State) : Half :=
  match s.stand.standby with
  | none => (0x03 : Byte) ++ byteN (match c with | .warden => 1 | .command => 2 | .fsafe => 4 | .powerUp => 8)
  | some x =>
    (0x01 : Byte) ++ byteN (16 * x.bank.code.toNat + match c with | .warden => 1 | .command => 2 | .fsafe => 4 | .powerUp => 8)

/-- R162, R163: the state after an entry from HOST. -/
def entered (c : Cause) (s : State) : State :=
  queueJournal .standinEnter (byteN (match c with | .warden => 1 | .command => 2 | .fsafe => 4 | .powerUp => 8))
    (raise .standinEnter 0 0 (enterDetail c s) (cutEverywhere (ownedMask s) (enteredBlocks c s)))

/-- R161: a request while the part is in stand-in only adds its cause. -/
def causeAdded (c : Cause) (s : State) : State :=
  s.setStand { s.stand with causes := withCause c s.stand.causes }

/-- R161: a request for stand-in entry. -/
def requested (c : Cause) (s : State) : State := if s.stand.state = .host then entered c s else causeAdded c s

/-- R148, R149: the state after a warden fault, with its response when it is due. -/
def faulted (k : FaultKind) (s : State) : State :=
  let strikes := s.ward.strikes + 1
  let t := s.setWard { s.ward with lastFault := k, faults := s.ward.faults + 1, strikes := strikes }
  let t := queueJournal .wardenFault k.code (raise .wardenFault 0 0 (k.code ++ byteN strikes) t)
  if strikes = s.ward.threshold then
    let t := if s.ward.respStandin = true then requested .warden t else t
    let t := if s.ward.respHrst = true then t.setWard { t.ward with hrst := 20 } else t
    t.setWard { t.ward with strikes := 0 }
  else t

/-- R166: the selected image of two banks. -/
def selected (a b : Option Image) : Option Image :=
  match a, b with
  | none, b => b
  | some x, none => some x
  | some x, some y => if x.gen.toNat < y.gen.toNat then some y else some x

/-- R165: the stand-in engine after an evaluation. -/
def evaluated (s : State) : State :=
  let a := parseImage .a (s.store.pages.readRun 64 256)
  let b := parseImage .b (s.store.pages.readRun 320 256)
  s.setStand { s.stand with
    validA := a.isSome, validB := b.isSome, standby := selected a b, evalPending := false }

/-- R167: whether an evaluation at a return has to wait for the store engine. -/
def EvaluationWaits (e : Engine) : Bool :=
  match e with
  | .idle => false
  | .programming page _ _ => decide (1 ≤ page.val ∧ page.val ≤ 8)
  | .appending _ _ _ => false
  | .wiping _ _ _ => true

/-- R173: the state after a return to HOST. -/
def returned (s : State) : State :=
  let x := s.stand
  let none' : Causes := { warden := false, command := false, fsafe := false, powerUp := false }
  let t := s.setStand { x with state := .host, causes := none', active := none, pos := 0 }
  let t := if x.evalPending = true ∧ EvaluationWaits s.store.engine = false then evaluated t else t
  queueJournal .standinReturn x.causes.code
    (raise .standinReturn 0 0 (x.state.code ++ x.causes.code) t)

/-- A run of bytes put into a memory at an address: every address of the run reads its byte, every other address as before. -/
def Overwrites (old new : Memory) (base : Nat) (data : List Byte) : Prop :=
  Memory.wf new ∧ ∀ a : Nat, new.read a = if base ≤ a ∧ a < base + data.length then data.getD (a - base) 0 else old.read a

/-! ## Ticks -/

/-- Ticks are processed: the port is ready and the timebase is RUNNING. -/
abbrev Ticking (s : State) : Prop := s.sys.phase = .ready ∧ s.time.running = true

/-- R36 stage 1. -/
def tickCounted (s : State) : State :=
  (s.setTime { s.time with tick := s.time.tick + 1, divider := 0 }).setCues
    { s.cues with frozenDur := if s.cues.frozen = true then min (s.cues.frozenDur + 1) (2 ^ 30) else s.cues.frozenDur }

/-- R112, R113: a line after one sample. -/
def lineSampled (high : Bool) (l : Line) : Line :=
  let count := if l.runValue = some high then min (l.runCount + 1) 8 else 1
  let level : FiltLevel := if high = true then .high else .low
  { l with
    runValue := some high
    runCount := count
    filtered := if l.filtered = .unsettled ∨ l.length ≤ count then level else l.filtered }

/-- R113, R114: the qualified edge that a line's run makes: rising, falling or none. -/
def edgeOf (l : Line) : Option Bool :=
  if l.filtered = .low ∧ l.runValue = some true ∧ l.length ≤ l.runCount then some true
  else if l.filtered = .high ∧ l.runValue = some false ∧ l.length ≤ l.runCount then some false
  else none

/-- R114: whether a log selection takes an edge. -/
def wants (sel : Selection) (rising : Bool) : Bool :=
  match sel with
  | .none => false
  | .rising => rising
  | .falling => !rising
  | .either => true

/-- R116 to R120: the state after an edge was handed to the edge log. -/
def edgeLogged (line : Fin 8) (rising : Bool) (s : State) : State :=
  let u := s.edges
  let record : EdgeRecord :=
    { seq := u.capture, line := line, rising := rising, gap := u.gapPending, stamp := s.time.tick }
  if wants u.lines[line].select rising = false then s
  else if u.log.length < 64 then
    let t := s.setEdges { u with
      log := List.append u.log [record], capture := u.capture + 1, gapPending := false }
    if u.log.length + 1 = u.threshold then raise .edgesReady 0 0 (halfN (u.log.length + 1)) t else t
  else
    raise .edgesLost 0 0 0 (s.setEdges (match u.policy with
      | .keepOldest => { u with capture := u.capture + 1, gapPending := true, lost := countedOnce u.lost }
      | .keepNewest =>
        { u with
          log := List.append
            (match u.log.tail with | [] => [] | r :: rest => { r with gap := true } :: rest) [record]
          capture := u.capture + 1, gapPending := false, lost := countedOnce u.lost }))

/-- R102, R103: what a qualified edge of a line does to the cue of one slot. -/
def hookMet (line : Fin 8) (rising : Bool) (s : State) (n : Fin 48) : State :=
  match s.cueAt n with
  | none => s
  | some c =>
    match c.trigger with
    | .atTime _ => s
    | .hook l edge delay =>
      let due := s.time.tick + delay.setWidth 32
      let taken := c.wait = .hooked ∨ (c.wait.code = 0x01 ∧ c.retrigger = true ∧ c.begun = false)
      if l = line ∧ (edge = .either ∨ edge = (if rising = true then .rising else .falling)) ∧ taken then
        place n (s.setCue n { c with wait := .armed due due false })
      else s

/-- R112 to R114: one line in the edge stage: its sample and its filter, then the qualified edge, if the filtered level changed
between LOW and HIGH, handed to the edge log and then to the hook set. -/
def lineServed (s : State) (n : Fin 8) : State :=
  let l := s.edges.lines[n]
  let after := lineSampled (s.pins.inputs.ins.getLsbD n.val) l
  let t := s.setEdges { s.edges with lines := s.edges.lines.set n.val after n.isLt }
  match l.filtered, after.filtered with
  | .low, .high => hookEdge n true (edgeLogged n true t)
  | .high, .low => hookEdge n false (edgeLogged n false t)
  | _, _ => t

/-- R58: the state with a slot freed. -/
def slotFreed (n : Fin 48) (s : State) : State :=
  s.setCues { s.cues with
    slots := Vector.ofFn fun k =>
      if k = n then { gen := s.cues.slots[k].gen + 1, cue := none } else s.cues.slots[k]
    due := s.cues.due.filter fun k => k != n }

/-- R89: the state after the series of the cue of a slot has ended with a cause. -/
def seriesEnded (n : Fin 48) (c : Cue) (cause : Byte) (s : State) : State :=
  let back := c.isHook && c.rearm
  let t := if c.notifyEnd = true then raise .seriesEnd (handleOf s n) c.tag (byteB back ++ cause) s else s
  if back = true then
    (t.setCues { t.cues with due := t.cues.due.filter fun k => k != n }).setCue n
      { c with wait := .hooked, remaining := c.occurrences, begun := false }
  else slotFreed n t

/-- R87, R88: the state after an occurrence of the cue of a slot, scheduled at a tick, was completed or skipped. -/
def occurrenceDone (n : Fin 48) (c : Cue) (sched : Tick) (s : State) : State :=
  let left := if c.occurrences = 0 then c.remaining else c.remaining - 1
  let d := { c with begun := true, remaining := left }
  if c.occurrences ≠ 0 ∧ left = 0 then seriesEnded n d 0x00 (s.setCue n d)
  else place n (s.setCue n { d with wait := .armed (sched + c.period) (sched + c.period) false })

/-- R97, R170: masked channel writes counted in the cue table and the stand-in engine. -/
def maskedCounted (m : Half) (s : State) : State :=
  (s.setCues { s.cues with masked := s.cues.masked + BitVec.ofNat 32 (maskCount m) }).setStand
    { s.stand with masked := s.stand.masked + BitVec.ofNat 32 (maskCount m) }

/-- R44: the channels after a write of a level kind to those of a mask. -/
def written (m : Half) (k : LevelKind) (chans : Vector Channel 16) : Vector Channel 16 :=
  Vector.ofFn fun i =>
    if m.getLsbD i.val = true then { chans[i] with level := levelAfter k chans[i].level } else chans[i]

/-- R43: the channels owned by STANDIN. -/
def standinOwned (s : State) : Half :=
  BitVec.ofFnLE fun i : Fin 16 => s.chans[i].owned && s.stand.state != .host

/-- R86: the state after the trailing edge of the pulse in a slot. -/
def trailed (n : Fin 48) (c : Cue) (trail sched : Tick) (mask : Half) (ending : Bool) (s : State) : State :=
  let kind : LevelKind := if c.action = .pulseLow then .high else .low
  let d := { c with wait := .inPulse trail sched 0 ending }
  let t := (maskedCounted (mask &&& standinOwned s)
    (s.setChans (written (mask &&& ~~~standinOwned s) kind s.chans))).setCue n d
  if ending = true then slotFreed n t else occurrenceDone n d sched t

/-- R91: a guard passes. -/
def GuardPasses (g : Option Guard) (s : State) : Bool :=
  match g with
  | none => true
  | some g => s.edges.lines[g.line].filtered == if g.high = true then .high else .low

/-- R94 to R96: a firing counted, and its FIRED notice raised if asked. -/
def firingCounted (n : Fin 48) (c : Cue) (notify : Bool) (s : State) : State :=
  let t := s.setCues { s.cues with fired := s.cues.fired + 1 }
  if notify = true then raise .fired (handleOf s n) c.tag ((c.fired + 1).setWidth 16) t else t

/-- R92 to R97: the state after the leading action of the ARMED cue in a slot, scheduled at a tick, alone in its tick. -/
def led (n : Fin 48) (c : Cue) (sched : Tick) (s : State) : State :=
  if GuardPasses c.guard s = false then
    if c.guard.map Guard.policy = some .abandon then seriesEnded n c 0x01 s
    else
      let left := if c.occurrences = 0 then 0 else c.remaining - 1
      let t := s.setCues { s.cues with skipped := s.cues.skipped + 1 }
      occurrenceDone n c sched (if c.notifyFire = true then raise .skipped (handleOf s n) c.tag left t else t)
  else
    let d := { c with fired := c.fired + 1 }
    let driven := c.mask &&& ~~~standinOwned s
    let drive (k : LevelKind) : State :=
      maskedCounted (c.mask &&& standinOwned s) (cutEverywhere driven (s.setChans (written driven k s.chans)))
    let plain (k : LevelKind) : State :=
      occurrenceDone n d sched (firingCounted n c c.notifyFire ((drive k).setCue n d))
    let pulse (k : LevelKind) : State :=
      firingCounted n c c.notifyFire (place n ((drive k).setCue n
        { d with wait := .inPulse (s.time.tick + c.width.setWidth 32) sched driven false }))
    match c.action with
    | .driveHigh => plain .high
    | .driveLow => plain .low
    | .flt => plain .flt
    | .toggle => plain .toggle
    | .pulseHigh => pulse .high
    | .pulseLow => pulse .low
    | .notify => occurrenceDone n d sched (firingCounted n c true (s.setCue n d))

/-- R85: the cue of a slot is a pulse whose trailing tick is the tick being processed. -/
def trailsNow (s : State) (n : Fin 48) : Bool :=
  match s.cueAt n with
  | none => false
  | some c =>
    match c.wait with
    | .armed _ _ _ => false
    | .inPulse trail _ _ _ => trail == s.time.tick
    | .hooked => false

/-- R85: the cue of a slot is ARMED for the tick being processed and not yet overdue; `frozen` says in which state of the table. -/
def armedNow (frozen : Bool) (s : State) (n : Fin 48) : Bool :=
  match s.cueAt n with
  | none => false
  | some c =>
    match c.wait with
    | .armed due _ overdue => due == s.time.tick && !overdue && s.cues.frozen == frozen
    | .inPulse _ _ _ _ => false
    | .hooked => false

/-- R68: the cue of a slot, if ARMED, becomes overdue. -/
def passedOne (s : State) (n : Fin 48) : State :=
  match s.cueAt n with
  | none => s
  | some c =>
    match c.wait with
    | .armed due sched _ => s.setCue n { c with wait := .armed due sched true }
    | .inPulse _ _ _ _ => s
    | .hooked => s

/-- R86: the trailing edge of the cue of a slot, if IN_PULSE. -/
def trailedOne (s : State) (n : Fin 48) : State :=
  match s.cueAt n with
  | none => s
  | some c =>
    match c.wait with
    | .armed _ _ _ => s
    | .inPulse trail sched mask ending => trailed n c trail sched mask ending s
    | .hooked => s

/-- R90: the leading action of the cue of a slot, if ARMED. -/
def ledOne (s : State) (n : Fin 48) : State :=
  match s.cueAt n with
  | none => s
  | some c =>
    match c.wait with
    | .armed _ sched _ => led n c sched s
    | .inPulse _ _ _ _ => s
    | .hooked => s

/-- R44, R64, R97, R98: in a state, the leading action of the cue of a slot takes effect and drives a channel, and a level results. -/
def DrivesTo (s : State) (n : Fin 48) (i : Fin 16) (l : Level) : Prop :=
  ∃ (c : Cue) (kind : LevelKind), s.cueAt n = some c ∧ GuardPasses c.guard s = true ∧ c.action.leading = some kind ∧
    c.mask.getLsbD i.val = true ∧ (standinOwned s).getLsbD i.val = false ∧ levelAfter kind s.chans[i].level = l

/-- R98: a channel was driven to a level by one of some leading actions that were applied one after another from a state on. -/
def LedTo (leads : List (Fin 48)) (s : State) (i : Fin 16) (l : Level) : Prop :=
  ∃ (before : List (Fin 48)) (n : Fin 48) (after : List (Fin 48)),
    leads = before ++ n :: after ∧ DrivesTo (before.foldl ledOne s) n i l

/-- R68: what the due list goes by for the entry of a slot: whether it is overdue, its key tick, its priority. -/
def entryOf (s : State) (n : Fin 48) : Option (Bool × Tick × Fin 4) :=
  match s.cueAt n with
  | none => none
  | some c =>
    match c.wait with
    | .armed due _ overdue => some (overdue, due, c.priority)
    | .inPulse trail _ _ _ => some (false, trail, c.priority)
    | .hooked => none

/-- R69, R70: the entry of the first slot may stand ahead of that of the second: it is overdue, or neither is and it is nearer, or
as near with a priority as low. -/
def StandsBefore (s : State) (m n : Fin 48) : Prop :=
  match entryOf s m, entryOf s n with
  | some (lateM, keyM, prioM), some (lateN, keyN, prioN) =>
    lateM = true ∨ (lateN = false ∧
      ((keyM - s.time.tick).toNat < (keyN - s.time.tick).toNat ∨ (keyM = keyN ∧ prioM ≤ prioN)))
  | _, _ => False

/-! ## Warden-millisecond events -/

/-- R26: the counter of a warden millisecond, and of several; it stops at its greatest value. -/
def msCounted (k : Nat) (s : State) : State :=
  s.setTime { s.time with wardenMs := BitVec.ofNat 32 (min (s.time.wardenMs.toNat + k) 4294967295) }

/-- R27: the reference history after an event. -/
def referenceSampled (edge : Bool) (s : State) : State :=
  s.setTime { s.time with
    refOld := s.time.refNew, refNew := s.time.xinSeen || edge, xinSeen := false
    sinceReady := min (s.time.sinceReady + 1) 2 }

/-- R28: the conditions of clock substitution. -/
abbrev ReferenceLost (s : State) : Prop :=
  s.time.active = .external ∧ s.time.refNew = false ∧ s.time.refOld = false ∧ 2 ≤ s.time.sinceReady

/-- R28: clock substitution. -/
def substituted (s : State) : State :=
  queueJournal .clockSubst 0x00
    (raise .clockSubst 0 0 0 (s.setTime { s.time with active := .internal, subst := true }))

/-- R38 steps 1 and 2. -/
def monitored (edge : Bool) (s : State) : State :=
  let t := referenceSampled edge (msCounted 1 s)
  if ReferenceLost t then substituted t else t

/-- R154: the assertion of nFSAFE. -/
def fsafeAsserted (s : State) : State :=
  requested .fsafe (s.setWard { s.ward with fsafeAsserted := true, fsafeRun := 0, fsafeDur := 0 })

/-- R153, R154: the deassertion of nFSAFE, whose event the duration counts. -/
def fsafeCleared (s : State) : State :=
  raise .fsafeClear 0 0 (countedOnce s.ward.fsafeDur)
    (s.setWard { s.ward with fsafeAsserted := false, fsafeRun := 0, fsafeDur := countedOnce s.ward.fsafeDur })

/-- R38 step 3, R153: one sample of nFSAFE. -/
def fsafeSampled (s : State) : State :=
  let w := s.ward
  let dur := if w.fsafeAsserted = true then countedOnce w.fsafeDur else w.fsafeDur
  if w.fsafeEnable = false then s
  else if s.pins.inputs.nFsafe ≠ w.fsafeAsserted then
    s.setWard { w with fsafeRun := 0, fsafeDur := dur }
  else if w.fsafeRun < 2 then s.setWard { w with fsafeRun := w.fsafeRun + 1, fsafeDur := dur }
  else if w.fsafeAsserted = true then fsafeCleared s
  else fsafeAsserted s

/-- R144: the warden's timeout. -/
def timedOut (s : State) : State :=
  let t := faulted .late s
  t.setWard { t.ward with elapsed := 0, closedPhase := false }

/-- R38 step 4, R144. -/
def wardenAdvanced (s : State) : State :=
  if s.ward.armed = false then s
  else if s.ward.elapsed + 1 = s.ward.tMax then timedOut s
  else s.setWard { s.ward with elapsed := s.ward.elapsed + 1 }

/-- R149, R150: step 4 of this event starts an nHRST pulse. -/
abbrev PulseStarts (s : State) : Prop :=
  s.ward.armed = true ∧ s.ward.elapsed + 1 = s.ward.tMax ∧ s.ward.respHrst = true ∧ s.ward.strikes + 1 = s.ward.threshold

/-- R38 step 6, R19. -/
def lifetimeCounted (s : State) : State :=
  s.setPort { s.port with window :=
    match s.port.window with
    | none => none
    | some w => if w.remaining ≤ 1 then none else some { kind := w.kind, remaining := w.remaining - 1 } }

/-! ## The store engine -/

/-- R191: the append of the oldest queued record starts. -/
def appendStarted (s : State) : State :=
  match s.store.queue with
  | [] => s
  | r :: rest =>
    s.setStore { s.store with
      engine := .appending s.store.nextSlot (recordBytes s.store.nextSeq r) 5
      queue := rest
      nextSlot := Fin.ofNat 32 (s.store.nextSlot.val + 1)
      nextSeq := s.store.nextSeq + 1 }

/-- R167: what a completion that wants an evaluation does. -/
def evaluationWanted (s : State) : State :=
  if s.stand.state = .host then evaluated s else s.setStand { s.stand with evalPending := true }

/-- R177, R178: the engine becomes IDLE and takes up the head of the journal queue. -/
def engineFreed (s : State) : State := appendStarted (s.setStore { s.store with engine := .idle })

/-- R182: the state after a HOST program of a page that left some pages. -/
def programEnded (page : Fin 32) (takes : Bool) (pages : Memory) (s : State) : State :=
  let t := (s.setStore { s.store with pages := pages }).useFree
  let t := raise .storeDone 0 0 (byteN page.val ++ (if takes = true then 0x00 else 0x01 : Byte)) t
  let t := if takes = true then t
    else queueJournal .storeFault (byteN page.val) (raise .storeFault 0 0 ((0x00 : Byte) ++ byteN page.val) t)
  engineFreed (if 1 ≤ page.val ∧ page.val ≤ 8 then evaluationWanted t else t)

/-- R189, R191: the state after an append to a slot that left some pages. -/
def appendEnded (slot : Fin 32) (takes : Bool) (pages : Memory) (s : State) : State :=
  let t := (s.setStore { s.store with pages := pages }).useFree
  engineFreed (if takes = true then t
    else raise .storeFault 0 0 ((0x01 : Byte) ++ byteN (24 + slot.val / 4)) t)

/-- R184 step 1: the state after the erase of a page that left some pages. -/
def eraseEnded (page left failed : Nat) (takes : Bool) (pages : Memory) (s : State) : State :=
  let t := (s.setStore { s.store with
    pages := pages, engine := .wiping (page + 1) (left - 1) (if takes = true then failed else failed + 1) }).useFree
  if takes = true then t
  else queueJournal .storeFault (byteN page) (raise .storeFault 0 0 ((0x02 : Byte) ++ byteN page) t)

/-- R184 step 2: the state after a wipe. -/
def wipeEnded (failed : Nat) (s : State) : State :=
  let t := s.setStore { s.store with lockConfig := false, lockStandin := false, lockUser := false }
  let t := raise .storeDone 0 0 ((0xFF : Byte) ++ (if failed = 0 then 0x00 else 0x01 : Byte))
    (queueJournal .wipe (byteN failed) t)
  engineFreed (evaluationWanted t)

/-- R185: a byte that an interrupted write may have left. -/
def MayTear (old new left : Byte) : Prop := left = old ∨ left = new ∨ left = 0xFF

/-- R185: an interrupted write of some bytes at an address: each may have its old value, its new value or FFh; every other
address is as before. -/
def Tears (old new : Memory) (base : Nat) (data : List Byte) : Prop :=
  Memory.wf new ∧ ∀ a : Nat,
    if base ≤ a ∧ a < base + data.length then MayTear (old.read a) (data.getD (a - base) 0) (new.read a)
    else new.read a = old.read a

/-- R185: what a reset leaves in the pages, by the operation that it stops. -/
def Interrupted (e : Engine) (old new : Memory) : Prop :=
  match e with
  | .idle => new = old
  | .programming page data _ => Tears old new (64 * page.val) data
  | .appending slot record _ =>
    if slot.val % 4 = 0 then Tears old new (64 * (24 + slot.val / 4)) (record ++ List.replicate 48 0xFF)
    else Tears old new (64 * (24 + slot.val / 4) + 16 * (slot.val % 4)) record
  | .wiping page _ _ => if page < 24 then Tears old new (64 * page) (List.replicate 64 0xFF) else new = old

/-! ## Reset and power-up -/

/-- R41: what waits and is not abandoned by a reset: another reset, and the sequence that follows a release. -/
def notAbandoned : Instr → Bool
  | .powerOnReset => true
  | .brownoutReset => true
  | .pinReset => true
  | .softReset => true
  | .powerUpSequence _ => true
  | .portReady => true
  | _ => false

/-- R195, R196, R201: the state while a reset is in effect that left some pages and some levels of MISO; the input pins belong to
the outside (log 6). -/
def resetWith (asserted : ResetSet) (pages : Memory) (miso : List Bool) (s : State) : State :=
  { State.reset with
    port := { Port.reset with miso := miso }
    store := { Store.reset with
      pages := pages, lockConfig := s.store.lockConfig, lockStandin := s.store.lockStandin, lockUser := s.store.lockUser }
    sys := { SysCtl.reset with asserted := asserted, causes := s.sys.causes }
    pins := { Pins.reset with
      inputs := s.pins.inputs, miso := if s.pins.inputs.nCs = true then .hiZ else .driven }
    free := s.free + 1
    pending := s.pending.filter notAbandoned }

/-- R196: the cause set at a release. -/
def causesAtRelease (former asserted : ResetSet) : ResetSet :=
  if asserted.powerOn = true ∨ asserted.brownout = true then asserted
  else
    { powerOn := former.powerOn, brownout := former.brownout, pin := former.pin || asserted.pin
      soft := former.soft || asserted.soft }

/-- R195, R196: the release of a reset (log 13). -/
def released (p : PowerUp) (s : State) : State :=
  ((met p.pins s).setSys { s.sys with
    phase := .poweringUp 0, asserted := ResetSet.none, causes := causesAtRelease s.sys.causes s.sys.asserted }).setTime
      { s.time with xinSeen := p.xinEdge }

/-- R187: the values that the power-up sequence takes. -/
def recordValues : RecordClass → ConfigRecord
  | .erased => ConfigRecord.defaults
  | .valid c => c
  | .bad _ _ => ConfigRecord.defaults

/-- R187, R203: the outcome that the power-up sequence keeps. -/
def recordOutcome : RecordClass → ConfigOutcome
  | .erased => .erased
  | .valid _ => .valid
  | .bad _ _ => .bad

/-- R199 step 1. -/
def configTaken (k : RecordClass) (s : State) : State :=
  let c := recordValues k
  ((s.setSys { s.sys with outcome := recordOutcome k }).setWard { s.ward with
    tMin := c.tMin, tMax := c.tMax, threshold := c.threshold, respStandin := c.respStandin, respHrst := c.respHrst
    latch := c.latch, autoArm := c.autoArm, fsafeEnable := c.fsafeEnable }).setEdges { s.edges with
    lines := Vector.ofFn fun i => { s.edges.lines[i] with length := c.lengths[i] } }

/-- R200 step 8. -/
def recordsQueued (k : RecordClass) (s : State) : State :=
  let t := queueJournal .reset s.sys.causes.code s
  match k with
  | .erased => t
  | .valid _ => t
  | .bad offset reason =>
    queueJournal .configBad (byteN reason) (raise .configBad 0 0 (byteN offset ++ byteN reason) t)

/-- R199, R200: the effect of each step of the power-up sequence on a part whose page 0 was classed as `k`, with the warden
milliseconds that pass before steps 7 and 8 (log 13). -/
def sequenceStep (p : PowerUp) (k : RecordClass) (i : Nat) (s : State) : State :=
  let c := recordValues k
  match i with
  | 1 => configTaken k s
  | 2 => s.setStore { s.store with nextSlot := (scanRing s.store.pages).1, nextSeq := (scanRing s.store.pages).2 }
  | 3 => evaluated s
  | 4 => s.setChans c.chans
  | 5 => s.setTime { s.time with
      configured := c.source, active := c.source, subst := false, rate := c.rate, tick := 0, running := c.running }
  | 6 => if c.autoArm = true then
      s.setWard { s.ward with armed := true, elapsed := 0, closedPhase := false, expected := 1, strikes := 0 } else s
  | 7 => if c.standin = true then requested .powerUp (msCounted p.msBeforeEntry s) else msCounted p.msBeforeEntry s
  | 8 => recordsQueued k (msCounted p.msBeforeRecords s)
  | _ => s

/-- R199, R200: the steps after the `done`-th, one after another, up to the one that the sequence reaches; step 9 makes the port
ready. -/
def sequenced (p : PowerUp) (done : Nat) (s : State) : State :=
  let k := classRecord ((List.range 64).map s.store.pages.read)
  settle ((List.range' (done + 1) (p.steps.val - done)).foldl (fun u i =>
    let t := sequenceStep p k i u
    if i = 9 then madeReady t else t.setSys { t.sys with phase := .poweringUp (Fin.ofNat 9 i) }) s)

/-! ## Stored formats -/

/-- Table 10-4: the six bytes of a step. -/
def stepBytes (x : ProgramStep) : List Byte :=
  be24 (BitVec.ofNat 24 x.offset) ++ be16 x.mask ++
    [(match x.kind with | .low => 0x00 | .high => 0x01 | .flt => 0x02 | .toggle => 0x03 : Byte)]

/-- Table 10-4: the bytes of an image. -/
def imageBytes (x : Image) : List Byte :=
  let mode : Byte := match x.mode with | .cycle => 0x00 | .once => 0x01
  let body := [0x01, mode] ++ be16 x.gen ++
    be24 (BitVec.ofNat 24 x.length) ++ [byteN x.steps.length] ++ x.steps.flatMap stepBytes
  body ++ be16 (crc16 body)

/-- R188: the images that a bank can hold. -/
def Image.storable (x : Image) : Prop :=
  1 ≤ x.steps.length ∧ x.steps.length ≤ 32 ∧ 1 ≤ x.length ∧ x.length < 2 ^ 24 ∧
    (∀ y ∈ x.steps, y.offset < x.length) ∧ x.steps.Pairwise fun y z => y.offset ≤ z.offset

/-- Table 10-2: the byte of a channel. -/
def channelByte (c : Channel) : Byte :=
  packBits [c.shut, c.owned, c.safe == .flt, c.safe == .high, c.drive == .openDrain]

/-- Table 10-2: the bytes of a configuration record. -/
def configBytes (c : ConfigRecord) : List Byte :=
  let body := [0x01, packBits [c.latch, c.autoArm, c.fsafeEnable, c.standin, c.running, c.source == .external],
      byteN c.rate.val] ++ be16 c.tMin ++ be16 c.tMax ++ [byteN c.threshold, packBits [c.respHrst, c.respStandin]] ++
    c.chans.toList.map channelByte ++ c.lengths.toList.map byteN ++ List.replicate 29 0x00
  body ++ be16 (crc16 body)

/-- Table 10-2: the values that a record can hold; a channel's commanded level is its safe level (R42). -/
def ConfigRecord.storable (c : ConfigRecord) : Prop :=
  2 ≤ c.tMax.toNat ∧ c.tMax.toNat ≤ 60000 ∧ c.tMin.toNat < c.tMax.toNat ∧ 1 ≤ c.threshold ∧ c.threshold ≤ 3 ∧
    (∀ i : Fin 16, c.chans[i].level = c.chans[i].safe) ∧ ∀ i : Fin 8, 1 ≤ c.lengths[i] ∧ c.lengths[i] ≤ 8

/-- Table 10-2: an offset of a configuration record at which a field of bytes 1 to 61 is not valid. -/
def FieldFails (p : List Byte) (i : Nat) : Prop :=
  let b := (byteAt p i).toNat
  let tMin := (halfAt p 3).toNat
  let tMax := (halfAt p 5).toNat
  (i = 1 ∧ 64 ≤ b) ∨ (i = 2 ∧ 3 < b) ∨ (i = 3 ∧ tMax ≤ tMin) ∨ (i = 5 ∧ (tMax < 2 ∨ 60000 < tMax)) ∨
    (i = 7 ∧ (b < 1 ∨ 3 < b)) ∨ (i = 8 ∧ 3 < b) ∨ (9 ≤ i ∧ i ≤ 24 ∧ (32 ≤ b ∨ b / 2 % 4 = 3)) ∨
    (25 ≤ i ∧ i ≤ 32 ∧ (b < 1 ∨ 8 < b)) ∨ (33 ≤ i ∧ i ≤ 61 ∧ b ≠ 0)

/-! ## Reset values -/

/-- Table 11-1, R41: the port and the timebase, and the pins of the channels (R42). -/
def PortAndTimebaseReset (s : State) : Prop :=
  s.port.cache = none ∧ s.port.window = none ∧ s.port.errors = 0 ∧ s.port.response = [] ∧ s.sys.softPending = false ∧
    s.time.subst = false ∧ s.time.refNew = false ∧ s.time.refOld = false ∧ s.time.tick = 0 ∧ s.time.wardenMs = 0 ∧
    s.time.divider = 0 ∧ ∀ i : Fin 16, s.pins.out[i] = .hiZ

/-- Table 11-2, Table 6-1, Table 6-2, R84: the cue table and the edge unit. -/
def CuesAndEdgesReset (s : State) : Prop :=
  (∀ n : Fin 48, s.cues.slots[n].cue = none ∧ s.cues.slots[n].gen = 0) ∧ s.cues.due = [] ∧ s.cues.frozen = false ∧
    s.cues.frozenDur = 0 ∧ s.cues.fired = 0 ∧ s.cues.missed = 0 ∧ s.cues.skipped = 0 ∧ s.cues.masked = 0 ∧
    s.cues.cut = 0 ∧ s.cues.conflicts = 0 ∧
    (∀ i : Fin 8, s.edges.lines[i].select = .none ∧ s.edges.lines[i].filtered = .unsettled ∧
      s.edges.lines[i].runValue = none ∧ s.edges.lines[i].runCount = 0) ∧
    s.edges.log = [] ∧ s.edges.capture = 0 ∧ s.edges.lost = 0 ∧ s.edges.gapPending = false ∧
    s.edges.policy = .keepOldest ∧ s.edges.threshold = 1

/-- Table 11-3, Table 7-1, Table 8-1: the notice unit, its ten enables in the mask form of R130, and the warden. -/
def NoticesAndWardenReset (s : State) : Prop :=
  let clear : Sticky := { latch := false, count := 0 }
  s.notes.urgent = [] ∧ s.notes.routine = [] ∧ s.notes.seq = 0 ∧ s.notes.urgentDropped = 0 ∧ s.notes.routineDropped = 0 ∧
    (∀ k : Fin 16, s.notes.enables.getLsbD k.val = decide (1 ≤ k.val ∧ k.val ≤ 10)) ∧
    s.notes.conflict = clear ∧ s.notes.edgesLost = clear ∧ s.notes.journalLoss = clear ∧
    s.ward.armed = false ∧ s.ward.elapsed = 0 ∧ s.ward.closedPhase = false ∧ s.ward.expected = 0 ∧ s.ward.strikes = 0 ∧
    s.ward.lastFault = .none ∧ s.ward.faults = 0 ∧ s.ward.beatSince = false ∧ s.ward.hrst = 0 ∧ s.pins.nHrst = true ∧
    s.pins.nAttn = true ∧ s.ward.fsafeAsserted = false ∧ s.ward.fsafeRun = 0 ∧ s.ward.fsafeDur = 0

/-- Table 11-4, Table 9-1: the stand-in engine. -/
def StandInReset (s : State) : Prop :=
  s.stand.state = .host ∧ s.stand.causes = { warden := false, command := false, fsafe := false, powerUp := false } ∧
    s.stand.standby = none ∧ s.stand.validA = false ∧ s.stand.validB = false ∧ s.stand.evalPending = false ∧
    s.stand.active = none ∧ s.stand.pos = 0 ∧ s.stand.masked = 0 ∧ s.stand.entryStamp = 0

/-- Table 11-5: the volatile items of the retained store; the power-up sequence sets the next slot and sequence. -/
def StoreReset (s : State) : Prop :=
  s.store.engine = .idle ∧ (∀ a : Nat, a < 64 → s.store.buffer.read a = 0xFF) ∧ s.store.queue = [] ∧ s.store.journalLost = 0

/-- R195, R201: a reset is in effect, and every volatile item whose value the manual gives has it. -/
def ResetValues (s : State) : Prop :=
  s.sys.phase = .inReset ∧ PortAndTimebaseReset s ∧ CuesAndEdgesReset s ∧ NoticesAndWardenReset s ∧ StandInReset s ∧
    StoreReset s

/-! ## What commands leave alone -/

/-- Everything but the port, the pins and the model's counter of free values is the same. -/
def SameBlocks (s t : State) : Prop :=
  t.time = s.time ∧ t.chans = s.chans ∧ t.cues = s.cues ∧ t.edges = s.edges ∧ t.notes = s.notes ∧ t.ward = s.ward ∧
    t.stand = s.stand ∧ t.store = s.store ∧ t.sys = s.sys ∧ t.pending = s.pending

/-! ## Invariants -/

/-- R176, R179: the pages and the page buffer keep their canonical form. -/
def MemoriesCanonical (s : State) : Prop := Memory.wf s.store.pages ∧ Memory.wf s.store.buffer

/-- R45: what a pin presents, by the table: only LOW, and HIGH of a push-pull driver, are driven. -/
def presented : Drive → Level → PinLevel
  | .pushPull, .low => .low
  | .pushPull, .high => .high
  | .pushPull, .flt => .hiZ
  | .openDrain, .low => .low
  | .openDrain, .high => .hiZ
  | .openDrain, .flt => .hiZ

/-- R195, R199, R200: a step of the power-up sequence is not yet done since the last reset. -/
abbrev NotYet (step : Nat) (s : State) : Prop :=
  s.sys.phase = .inReset ∨ ∃ done : Fin 9, s.sys.phase = .poweringUp done ∧ done.val < step

/-- R42, R199: the OUT pins are in high impedance while a reset is in effect and until step 4 of the power-up sequence is done. -/
abbrev OutputsHeld (s : State) : Prop := NotYet 4 s

/-- R1, R42, R45, R46, R139, R150: the output pins show the state: the OUT pins their channels, nATTN the lanes of a ready port,
nHRST its timer, MISO the level of nCS. -/
def PinsShown (s : State) : Prop :=
  (OutputsHeld s → ∀ i : Fin 16, s.pins.out[i] = .hiZ) ∧
  (¬OutputsHeld s → ∀ i : Fin 16, s.pins.out[i] = presented s.chans[i].drive s.chans[i].level) ∧
  (s.pins.nAttn = false ↔ s.sys.phase = .ready ∧ (s.notes.urgent ≠ [] ∨ s.notes.routine ≠ [])) ∧
  (s.pins.nHrst = false ↔ s.ward.hrst ≠ 0) ∧
  s.pins.miso = if s.pins.inputs.nCs = true then .hiZ else .driven

/-- Whether the slot is ARMED or IN_PULSE. -/
def Listed (s : State) (n : Fin 48) : Prop := ∃ c, s.cueAt n = some c ∧ c.key.isSome

/-- R57: the due list holds exactly the cues that are ARMED or IN_PULSE, each once. -/
def DueListSound (s : State) : Prop := s.cues.due.Nodup ∧ ∀ n, n ∈ s.cues.due ↔ Listed s n

/-- R67: the remaining count of a live cue: at least 1 and at most its occurrences when limited, else 0. -/
def RemainingSound (s : State) : Prop :=
  ∀ n c, s.cueAt n = some c →
    if c.occurrences = 0 then c.remaining = 0
    else 1 ≤ c.remaining.toNat ∧ c.remaining.toNat ≤ c.occurrences.toNat

/-- The pending trailing mask of a cue; empty unless IN_PULSE (R67). -/
def Cue.trailing (c : Cue) : Half := c.pending

/-- R100: a channel is in at most one pending trailing mask, and holds the level that the pulse's leading edge wrote. -/
def PulsesSound (s : State) : Prop :=
  (∀ n m c d, n ≠ m → s.cueAt n = some c → s.cueAt m = some d → c.trailing &&& d.trailing = 0) ∧
    ∀ n c (i : Fin 16), s.cueAt n = some c → c.trailing.getLsbD i.val = true →
      (c.action = .pulseHigh ∧ s.chans[i].level = .high) ∨ (c.action = .pulseLow ∧ s.chans[i].level = .low)

/-- R49: no pending trailing mask holds a channel owned by STANDIN. -/
def TrailingMasksHostOwned (s : State) : Prop := ∀ n c, s.cueAt n = some c → c.trailing &&& standinMask s = 0

/-- R22, R84: while a reset is in effect, and until the port is ready, the cue table is empty. -/
def TableEmptyInReset (s : State) : Prop := s.sys.phase ≠ .ready → ∀ n, s.cueAt n = none

/-- R22: the port ignores a transaction in progress only when it is ready, and only while nCS is low. -/
def IgnoringSound (s : State) : Prop :=
  s.port.ignoring = true → s.sys.phase = .ready ∧ s.pins.inputs.nCs = false

/-- R129, R137: the lanes keep their capacities, and between events no raised notice waits. -/
def LanesSound (s : State) : Prop :=
  s.notes.urgent.length ≤ 4 ∧ s.notes.routine.length ≤ 16 ∧ s.notes.raised = []

/-- R178, R189: the journal queue holds at most four records, and none while the engine is IDLE. -/
def JournalSound (s : State) : Prop :=
  s.store.queue.length ≤ 4 ∧ (s.store.engine = .idle → s.store.queue = [])

/-- An image whose cycle has at least one tick (R188). -/
def Image.sound (x : Image) : Prop := 1 ≤ x.length

/-- R34, R159, R160, R162, R168, R169: in HOST there is no cause and no active image; in stand-in there is a cause and the
timebase is RUNNING; RUN has an active image and a position inside its cycle, ENDED a position at its end, SAFE no image;
before step 7 of the power-up sequence the state is HOST. -/
def StandSound (s : State) : Prop :=
  (NotYet 7 s → s.stand.state = .host) ∧
  (∀ x, s.stand.standby = some x → x.sound) ∧
  match s.stand.state with
  | .host => s.stand.causes = Causes.none ∧ s.stand.active = none ∧ s.stand.pos = 0
  | .run => s.stand.causes ≠ Causes.none ∧ s.time.running = true ∧
      ∃ x, s.stand.active = some x ∧ x.sound ∧ s.stand.pos < x.length
  | .ended => s.stand.causes ≠ Causes.none ∧ s.time.running = true ∧
      ∃ x, s.stand.active = some x ∧ x.sound ∧ x.mode = .once ∧ s.stand.pos = x.length
  | .safe => s.stand.causes ≠ Causes.none ∧ s.time.running = true ∧ s.stand.active = none ∧ s.stand.pos = 0

/-- Table 8-1: the ranges of the warden's items between events; and what an OFF warden holds (R145, R152), as it is
until step 6 of the power-up sequence (R200). -/
def WardenSound (s : State) : Prop :=
  let w := s.ward
  2 ≤ w.tMax.toNat ∧ w.tMax.toNat ≤ 60000 ∧ w.tMin.toNat < w.tMax.toNat ∧ 1 ≤ w.threshold ∧ w.threshold ≤ 3 ∧
  w.elapsed.toNat < w.tMax.toNat ∧ w.strikes < w.threshold ∧ w.hrst ≤ 20 ∧ w.fsafeRun ≤ 2 ∧
  (w.armed = false → w.elapsed = 0 ∧ w.closedPhase = false ∧ w.strikes = 0 ∧ w.expected = 0) ∧
  (w.fsafeEnable = false → w.fsafeAsserted = false ∧ w.fsafeRun = 0) ∧
  (NotYet 6 s → w.armed = false) ∧
  (s.sys.phase ≠ .ready → w.fsafeAsserted = false ∧ w.fsafeRun = 0)

/-- R19, R30, R33, R104, R111, R121: the ranges of the window's lifetime, the divider, the frozen duration, the filters and
the edge log; the divider is 0 while STOPPED and until the port is ready. -/
def RangesSound (s : State) : Prop :=
  (∀ w, s.port.window = some w → 1 ≤ w.remaining ∧ w.remaining ≤ 10) ∧
  s.time.divider < periodsPerTick s.time.rate ∧
  (s.time.running = false ∨ s.sys.phase ≠ .ready → s.time.divider = 0) ∧
  s.cues.frozenDur ≤ 2 ^ 30 ∧
  (∀ i : Fin 8, 1 ≤ s.edges.lines[i].length ∧ s.edges.lines[i].length ≤ 8 ∧ s.edges.lines[i].runCount ≤ 8) ∧
  s.edges.log.length ≤ 64 ∧ 1 ≤ s.edges.threshold ∧ s.edges.threshold ≤ 64

/-- A property that every step keeps, from every state that has it. -/
def KeptByEveryStep (P : State → Prop) : Prop := ∀ s t, P s → step s = .next t → P t

end Sys2Proof.Machine
end

