-- ==== Sys2Proof/Certificates/Slice0/Obligations.lean ====
section
/-! DEFINITION. The statements for the provers. Each is a claim about every state that meets its premises, reachable or not. Where a
response is formed (`answered`), the bytes on MISO hold the marker delay, which the manual leaves open (log 11), numbered by the
model's own counter (log 12), and none of the response when nCS is already high (log 24); the input pins are as the event brings
them (log 6), and with them whether its transaction began after the port became ready (log 27). No claim rests on those values. -/

open Sys2Proof Sys2Proof.Machine

/-! ## The queue, the clock and the port -/

/-- R39: a step runs the command at the front of the queue on the state with the rest of the queue; events that become pending
wait there in the order of R39, those of one class in the order in which they came, behind a reset and the power-up sequence
(the queue, and the place of those two in it, are the model's: log 1). -/
def Obligations.StepRunsTheFrontCommand : Prop :=
  (∀ (c : Instr) (s : State) (rest : List Instr), step (s.setPending (c :: rest)) = exec c (s.setPending rest)) ∧
  ∀ (events : List Instr) (s : State),
    events.foldl (fun u c => arrive c u) (s.setPending []) =
      s.setPending ([EventClass.reset, .powerUp, .wardenMs, .tick, .command].flatMap fun k =>
        events.filter fun c => eventClass c == k)

/-- R27, R30, R33: with an empty queue each step is one period of the active source (the model's choice, log 2). While ticks are
processed, the divider counts the periods, and the period that reaches the count of the rate puts one tick on the queue; while
they are not, the divider stays. Either way a period of XIN is an edge that the detector sees, except while a reset is in
effect. -/
def Obligations.PeriodsOfTheActiveSourceMakeATick : Prop :=
  ∀ s : State, s.pending = [] →
    let seen := s.time.xinSeen || s.time.active == .external
    (s.sys.phase = .ready ∧ s.time.running = true → s.time.divider < 8 * 10 ^ s.time.rate.val →
      (∀ k : Nat, 0 < k → s.time.divider + k < 8 * 10 ^ s.time.rate.val →
        stepTimes k s = some (s.setTime { s.time with divider := s.time.divider + k, xinSeen := seen })) ∧
      stepTimes (8 * 10 ^ s.time.rate.val - s.time.divider) s =
        some ((s.setTime { s.time with divider := 0, xinSeen := seen }).setPending [.tick s.pins.inputs])) ∧
    (¬(s.sys.phase = .ready ∧ s.time.running = true) → ∀ k : Nat, 0 < k →
      stepTimes k s = some (if s.sys.phase = .inReset then s else s.setTime { s.time with xinSeen := seen }))

/-- R1 to R3, R5, R24: a transaction carries the bytes that its bits make, most significant bit first, less an incomplete byte,
whatever the clock does while nCS is high; the bytes of an intact frame, whatever fill follows them, are read back as its
sequence byte, code and parameters; and the codes of the catalogue are exactly the known codes, each leading to the row of its
command (through the row REPLAY: the port goes by the bits and not by the row's name, log 20). The marker comes with one of the
first 40 fill bytes (log 11). -/
def Obligations.FramesDecodeToTheirCommands : Prop :=
  (∀ (bytes : List Byte) (tail : List Bool) (fresh : Bool) (pins : InPins) (idle after : List SpiClock), tail.length < 8 →
    (∀ c ∈ idle, c.nCs = true) → (∀ c ∈ after, c.nCs = true) →
    let t : Transaction :=
      { clocks := idle ++ (sent bytes tail fresh pins).clocks ++ after, fresh := fresh, pins := pins }
    received t = bytes ∧ sampled t = bytes.flatMap msbFirst ++ tail) ∧
  (∀ (seq code : Byte) (params fill : List Byte), params.length ≤ 24 →
    classify (encodeFrame seq code params ++ fill) = .intact seq code params) ∧
  catalogue.map Prod.fst = knownCodes ∧
  (∀ row ∈ catalogue, ∀ (f : Frame) (tail : List Bool) (s : State), f.params.length ≤ 24 → f.fill = tail.length →
    exec (.replay (sent (encodeFrame f.seq row.1 f.params) tail f.fresh f.pins)) s = exec (row.2 f) s) ∧
  ∀ n : Nat, markerFill n < 40

/-- R7, R10: the CRC-8 over a whole intact frame is 00h, and damage to any one byte after the length byte is caught. -/
def Obligations.DamageToOneByteIsCaught : Prop :=
  ∀ (seq code : Byte) (params fill : List Byte), params.length ≤ 24 →
    crc8 (encodeFrame seq code params) = 0 ∧
    ∀ (i : Nat) (x : Byte), 1 ≤ i → i < params.length + 4 → x ≠ byteAt (encodeFrame seq code params) i →
      let damaged := (encodeFrame seq code params).set i x ++ fill
      classify damaged = .checkFailed (byteAt damaged 1)

/-- R4, R8: an aborted frame, and a refused transaction whatever its bytes: nothing is answered, the port-error counter
counts, an open window closes, and nothing else changes. A transaction without a complete byte has no effect (R1). -/
def Obligations.AbortedAndRefusedTransactionsAreCounted : Prop :=
  ∀ (t : Transaction) (s : State), Serving s →
    let m := met t.pins s
    let counted := unanswered (sampled t).length
      (m.setPort { m.port with window := none, errors := countedOnce m.port.errors })
    (∀ (b : Byte) (rest : List Byte), received t = b :: rest → (received t).length < clippedLength b →
      exec (.frameAborted t) s = .next counted) ∧
    (received t ≠ [] → exec (.refusedTransaction t) s = .next counted) ∧
    (received t = [] → exec (.frameAborted t) s = .next m ∧ exec (.refusedTransaction t) s = .next m)

/-- R9: a complete frame whose length byte lies outside 4..28 is answered ERR_FORMAT with its own sequence byte, whatever its
check byte and whatever the cache holds, and counts as an evaluated command. -/
def Obligations.LengthOutOfRangeIsAnsweredFormat : Prop :=
  ∀ (t : Transaction) (s : State) (b : Byte) (rest : List Byte), Serving s →
    received t = b :: rest → (b.toNat < 4 ∨ 28 < b.toNat) → clippedLength b ≤ (received t).length →
    exec (.lengthOutOfRange t) s =
      .next (concludedAfter (clippedLength b) (sampled t).length t.pins (byteAt (received t) 1) none .format []
        (met t.pins s))

/-- R10: a complete frame with a wrong check byte is answered ERR_CHECK with the sequence byte received; nothing is executed,
the cache stays, the port-error counter counts and an open window closes. -/
def Obligations.WrongCheckByteIsAnsweredCheck : Prop :=
  ∀ (t : Transaction) (s : State) (b : Byte) (rest : List Byte), Serving s →
    received t = b :: rest → 4 ≤ b.toNat → b.toNat ≤ 28 → b.toNat ≤ (received t).length →
    byteAt (received t) (b.toNat - 1) ≠ crc8 ((received t).take (b.toNat - 1)) →
    let m := met t.pins s
    exec (.checkFailed t) s =
      .next (answered b.toNat (sampled t).length t.pins (byteAt (received t) 1) .check [] false
        (m.setPort { m.port with window := none, errors := countedOnce m.port.errors }))

/-- R11: a frame whose sequence byte is the cached one is answered from the cache with fresh flags and REPLAYED set, whatever
its code and parameters, and changes nothing; with an empty cache no frame is a replay. -/
def Obligations.ReplayIsAnsweredFromTheCache : Prop :=
  (∀ (s : State) (e : CacheEntry), Serving s → s.port.cache = some e →
    (∀ row ∈ catalogue, ∀ f : Frame, f.seq = e.seq →
      exec (row.2 f) s =
        .next (answered (f.params.length + 4) (frameClocks f) f.pins e.seq e.status e.payload true (met f.pins s))) ∧
    ∀ (code : Byte) (params : List Byte) (tail : List Bool) (fresh : Bool) (pins : InPins), params.length ≤ 24 →
      exec (.replay (sent (encodeFrame e.seq code params) tail fresh pins)) s =
        .next (answered (params.length + 4) (8 * (params.length + 4) + tail.length) pins e.seq e.status e.payload true
          (met pins s))) ∧
  ∀ (seq : Byte) (s : State), s.port.cache = none → isReplay seq s = false

/-- R12, R24: an intact frame with a code outside Table 1-5 is answered ERR_FORMAT as an executed command. -/
def Obligations.UnknownCodeIsAnsweredFormat : Prop :=
  ∀ (seq code : Byte) (params : List Byte) (tail : List Bool) (fresh : Bool) (pins : InPins) (s : State), Serving s →
    isReplay seq s = false → params.length ≤ 24 → code ∉ knownCodes →
    exec (.unknownCommandCode (sent (encodeFrame seq code params) tail fresh pins)) s =
      .next (concludedAfter (params.length + 4) (8 * (params.length + 4) + tail.length) pins seq none .format []
        (met pins s))

/-- R22, R26, R33, R198: until the port is ready, no transaction and no tick has an effect, and no row that is one step of a tick
or of a warden-millisecond event takes place (such a row as an event of its own is the model's choice, log 5). A transaction that
was in progress with nCS low when the port became ready has none either, whatever row it is, and the port serves the next as if
none had been (which of the two a row is, the row says: log 27). A soft reset still pending takes effect before the next
transaction, whatever row it is (log 7). -/
def Obligations.NothingIsServedBeforeThePortIsReady : Prop :=
  (∀ s : State, s.sys.phase ≠ .ready → s.sys.softPending = false →
    (∀ row ∈ catalogue, ∀ f : Frame, exec (row.2 f) s = .next (unanswered (frameClocks f) (met f.pins s))) ∧
    (∀ t : Transaction, ∀ c ∈ transactionRows t, exec c s = .next (unanswered (sampled t).length (met t.pins s))) ∧
    (∀ pins : InPins, exec (.tick pins) s = .next (met pins s)) ∧
    (∀ c ∈ [Instr.confirmWindowExpiry, .clockSubst, .wardenTimeout, .closedPhaseEnd, .nhrstPulseEnd, .fsafeAssert,
        .fsafeClear, .standinCycleEnd, .wipeComplete, .journalAppendStart], exec c s = .next s) ∧
    (∀ line : Fin 8, exec (.qualifiedEdge line) s = .next s) ∧
    (∀ slot : Fin 48, ∀ c ∈ [Instr.trailingEdge slot, .leadingAction slot, .cueOverdue slot], exec c s = .next s) ∧
    ∀ takes : Bool, ∀ c ∈ [Instr.storeProgramComplete takes, .wipeStepComplete takes, .journalAppendComplete takes],
      exec c s = .next s) ∧
  (∀ s : State, s.sys.phase = .ready → s.sys.softPending = false → s.port.ignoring = true →
    let served := s.setPort { s.port with ignoring := false }
    (∀ row ∈ catalogue, ∀ f : Frame,
      exec (row.2 f) s =
        if f.fresh = true then exec (row.2 f) served else .next (unanswered (frameClocks f) (met f.pins s))) ∧
    ∀ t : Transaction, ∀ c ∈ transactionRows t,
      exec c s =
        if t.fresh = true then exec c served else .next (unanswered (sampled t).length (met t.pins s))) ∧
  ∀ s : State, s.sys.softPending = true →
    (∀ row ∈ catalogue, ∀ f : Frame,
      exec (row.2 f) s = .next (unanswered (frameClocks f) (met f.pins (takeReset .soft s)))) ∧
    ∀ t : Transaction, ∀ c ∈ transactionRows t,
      exec c s = .next (unanswered (sampled t).length (met t.pins (takeReset .soft s)))

/-- R17: an executed command that is answered with a status other than OK changes no state of the part beyond the port's own
bookkeeping; ERR_BEAT, the exception, is an answer of WARD.BEAT alone. -/
def Obligations.FailedCommandsChangeNothing : Prop :=
  ∀ row ∈ catalogue, ∀ (f : Frame) (s t : State) (e : CacheEntry), Served f s → PinsShown s → s.notes.raised = [] →
    exec (row.2 f) s = .next t → t.port.cache = some e → e.status ≠ .ok →
    (e.status = .beat → row.1 = 0x62) ∧
    (e.status ≠ .beat → SameBlocks s t ∧ t.pins = (met f.pins s).pins ∧ t.port.errors = s.port.errors ∧
      t.port.window = none ∧ e.seq = f.seq ∧ e.payload = [])

/-- R13, R19 to R21: after an executed command the cache holds its sequence byte, and the window is that of a successful request
with the full lifetime, or closed; a completion without an open window of its kind does not succeed, and ERR_SEQUENCE comes only
from a completion or from NOTE.NEXT. -/
def Obligations.WindowsFollowRequestsAndCompletions : Prop :=
  ∀ row ∈ catalogue, ∀ (f : Frame) (s t : State), Served f s → exec (row.2 f) s = .next t → t.sys.phase = .ready →
    ∃ e : CacheEntry, t.port.cache = some e ∧ e.seq = f.seq ∧
      t.port.window =
        (if e.status = .ok then (windowOpenedBy row.1).map fun k => { kind := k, remaining := 10 } else none) ∧
      (∀ k : WindowKind, windowNeededBy row.1 = some k → s.port.window.map Window.kind ≠ some k →
        e.status = .format ∨ e.status = .param ∨ e.status = .sequence) ∧
      (e.status = .sequence → (windowNeededBy row.1).isSome = true ∨ row.1 = 0x51)

/-! ## What the reading commands report -/

/-- R202, Table 6-4, Table 7-4, Table 8-2, Table 9-2, Table 10-6: the payloads of SYS.IDENTIFY, EDGE.STATUS, NOTE.STATUS,
WARD.STATUS, STAND.STATUS and STORE.STATUS, none of which changes any state. -/
def Obligations.StatusCommandsReportTheirBlocks : Prop :=
  ∀ (f : Frame) (s : State), Served f s →
    Reads .sysIdentify f s [0x50, 0x48, 0x16, 0x03, 48, 16, 8, 64, 32] ∧
    (∃ levels : Half,
      (∀ i : Fin 8, levels.extractLsb' (2 * i.val) 2 = BitVec.ofNat 2 s.edges.lines[i].filtered.code) ∧
      Reads .edgeStatus f s
        ([byteN s.edges.log.length] ++ be16 s.edges.lost ++ [s.edges.policy.code, byteN s.edges.threshold] ++
          be16 s.edges.capture ++ [byteB s.edges.gapPending] ++ be16 levels ++ [f.pins.ins] ++
          (List.finRange 8).map fun i =>
            byteN (16 * s.edges.lines[i].select.code + s.edges.lines[i].length))) ∧
    (∃ latches : Byte, Bits latches [s.notes.conflict.latch, s.notes.edgesLost.latch, s.notes.journalLoss.latch] ∧
      Reads .noteStatus f s
        ([byteN s.notes.urgent.length, byteN s.notes.routine.length] ++
          be16 (match s.notes.urgent with | [] => 0 | n :: _ => n.seq) ++
          be16 (match s.notes.routine with | [] => 0 | n :: _ => n.seq) ++ be16 s.notes.seq ++ [latches] ++
          be16 s.notes.conflict.count ++ be16 s.notes.edgesLost.count ++ be16 s.notes.journalLoss.count ++
          be16 s.notes.urgentDropped ++ be16 s.notes.routineDropped ++ be16 s.notes.enables)) ∧
    (∃ marks response : Byte,
      Bits marks [s.ward.fsafeAsserted, s.ward.fsafeEnable, f.pins.nFsafe, s.ward.beatSince, s.ward.latch,
        s.ward.autoArm, s.ward.closedPhase] ∧
      Bits response [s.ward.respStandin, s.ward.respHrst] ∧
      Reads .wardStatus f s
        ([wardenState s.ward, byteN s.ward.strikes, if s.ward.armed = true then s.ward.expected else 0] ++
          be16 (if s.ward.armed = true then s.ward.elapsed else 0) ++ [s.ward.lastFault.code] ++ be32 s.ward.faults ++
          [marks] ++ be16 s.ward.fsafeDur ++ be16 s.ward.tMin ++ be16 s.ward.tMax ++
          [byteN s.ward.threshold, response, byteN s.ward.hrst])) ∧
    (∃ causes marks : Byte,
      Bits causes [s.stand.causes.warden, s.stand.causes.command, s.stand.causes.fsafe, s.stand.causes.powerUp] ∧
      Bits marks [s.stand.validA, s.stand.validB, s.stand.evalPending] ∧
      Reads .standStatus f s
        ([s.stand.state.code, causes] ++ imageFields s.stand.active ++ imageFields s.stand.standby ++ [marks] ++
          programFields s.stand.active ++ be24 (BitVec.ofNat 24 s.stand.pos) ++ be32 s.stand.masked ++
          be32 s.stand.entryStamp)) ∧
    (∃ locks banks : Byte,
      Bits locks [s.store.lockConfig, s.store.lockStandin, s.store.lockUser] ∧
      Bits banks [s.stand.validA, s.stand.validB] ∧
      Reads .storeStatus f s
        ([s.store.engine.code] ++ operationFields s.store.engine ++ [byteN s.store.queue.length] ++
          be16 s.store.journalLost ++ [locks, banks, byteN s.store.nextSlot.val] ++ be16 s.store.nextSeq))

/-- R31, R83, R203: the payloads of TIME.READ, CUE.STATUS and SYS.STATUS; SYS.STATUS shows the window that it closes. -/
def Obligations.TimeCueAndSystemStatusReport : Prop :=
  ∀ (f : Frame) (s : State), Served f s →
    (∃ history : Byte, Bits history [s.time.refNew, s.time.refOld] ∧
      Reads .timeRead f s
        (be32 s.time.tick ++ be32 s.time.wardenMs ++
          [byteB s.time.running, byteN s.time.rate.val, s.time.configured.code, s.time.active.code, history])) ∧
    Reads .cueStatus f s
      ([byteN (slotsIn 0x01 s), byteN (slotsIn 0x02 s), byteN (slotsIn 0x03 s), byteB s.cues.frozen] ++
        be32 s.cues.fired ++ be32 s.cues.missed ++ be32 s.cues.skipped ++ be32 s.cues.masked ++ be32 s.cues.cut ++
        be32 s.cues.conflicts) ∧
    (∃ causes : Byte,
      Bits causes [s.sys.causes.powerOn, s.sys.causes.brownout, s.sys.causes.pin, s.sys.causes.soft] ∧
      Reads .sysStatus f s
        (be16 s.port.errors ++
          [causes, s.stand.state.code, wardenState s.ward, s.store.engine.code, byteB s.time.running,
            s.sys.outcome.code,
            match s.port.window with | none => 0x00 | some w => w.kind.code,
            match s.port.window with | none => 0x00 | some w => byteN w.remaining,
            byteN ((List.finRange 48).countP fun n => (s.cueAt n).isNone)]))

/-- R43, R54: CHAN.READ gives two bits of commanded and of safe level for each channel, and one bit of owner, seal, stand-in-owned
mark and drive type. -/
def Obligations.ChanReadReportsEveryChannel : Prop :=
  ∀ (f : Frame) (s : State), Served f s →
    ∃ (levels safes : Tick) (owners seals owned drives : Half),
      (∀ i : Fin 16,
        levels.extractLsb' (2 * i.val) 2 = BitVec.ofNat 2 s.chans[i].level.code ∧
        safes.extractLsb' (2 * i.val) 2 = BitVec.ofNat 2 s.chans[i].safe.code ∧
        owners.getLsbD i.val = (s.stand.state != .host && s.chans[i].owned) ∧
        seals.getLsbD i.val = s.chans[i].shut ∧ owned.getLsbD i.val = s.chans[i].owned ∧
        drives.getLsbD i.val = (s.chans[i].drive == .openDrain)) ∧
      Reads .chanRead f s
        (be32 levels ++ be16 owners ++ be16 seals ++ be16 owned ++ be32 safes ++ be16 drives)

/-! ## System and timebase -/

/-- R197: SYS.CAUSE gives the cause set before the command, and with 01h clears it. -/
def Obligations.SysCauseReadsAndClears : Prop :=
  ∀ (f : Frame) (s : State), Served f s → ∃ causes : Byte,
    Bits causes [s.sys.causes.powerOn, s.sys.causes.brownout, s.sys.causes.pin, s.sys.causes.soft] ∧
    (f.params = [0x00] → exec (.sysCause f) s = .next (granted f [causes] (met f.pins s))) ∧
    (f.params = [0x01] →
      exec (.sysCause f) s =
        .next (granted f [causes]
          ((met f.pins s).setSys { s.sys with
            causes := { powerOn := false, brownout := false, pin := false, soft := false } }))) ∧
    (∀ b : Byte, f.params = [b] → 1 < b.toNat → exec (.sysCause f) s = .next (refusedWith f .param s)) ∧
    (f.params.length ≠ 1 → exec (.sysCause f) s = .next (refusedWith f .format s))

/-- R2, R198: the request and the confirmation of a soft reset, and the rising edge of nCS at which the pending one takes effect;
with nCS already high it takes effect as the command completes. -/
def Obligations.SoftResetWaitsForTheRisingEdge : Prop :=
  ∀ (f : Frame) (s : State),
    (Served f s →
      exec (.sysResetReq f) s =
        .next (if f.params ≠ [] then refusedWith f .format s
          else if s.stand.state = .host then opened f .reset (met f.pins s)
          else refusedWith f .state s) ∧
      exec (.sysResetConfirm f) s =
        .next (if f.params ≠ [] then refusedWith f .format s
          else if s.port.window.map Window.kind ≠ some .reset then refusedWith f .sequence s
          else if s.stand.state ≠ .host then refusedWith f .state s
          else
            let confirmed := granted f [] ((met f.pins s).setSys { s.sys with softPending := true })
            if f.pins.nCs = true then takeReset .soft confirmed else confirmed)) ∧
    exec .softReset s =
      .next (if s.sys.softPending = true then met { s.pins.inputs with nCs := true } (takeReset .soft s)
        else met { s.pins.inputs with nCs := true } s)

/-- R29, R30, R33 to R35: TIME.RUN, TIME.STOP, TIME.SET, TIME.RATE and TIME.RESTORE. -/
def Obligations.TimeCommandsSetTheTimebase : Prop :=
  ∀ (f : Frame) (s : State), Served f s →
    let m := met f.pins s
    exec (.timeRun f) s =
      .next (if f.params ≠ [] then refusedWith f .format s
        else if s.time.running = true then refusedWith f .state s
        else granted f [] (m.setTime { s.time with running := true, divider := 0 })) ∧
    exec (.timeStop f) s =
      .next (if f.params ≠ [] then refusedWith f .format s
        else if s.time.running = false ∨ s.stand.state ≠ .host then refusedWith f .state s
        else granted f [] (m.setTime { s.time with running := false, divider := 0 })) ∧
    exec (.timeSet f) s =
      .next (match f.params with
        | [a, b, c, d] =>
          if s.time.running = true ∨ s.cues.due ≠ [] then refusedWith f .state s
          else granted f [] (m.setTime { s.time with tick := a ++ b ++ c ++ d })
        | _ => refusedWith f .format s) ∧
    exec (.timeRate f) s =
      .next (match f.params with
        | [b] =>
          if h : b.toNat < 4 then
            if s.time.running = true then refusedWith f .state s
            else granted f [] (m.setTime { s.time with rate := ⟨b.toNat, h⟩ })
          else refusedWith f .param s
        | _ => refusedWith f .format s) ∧
    exec (.timeRestore f) s =
      .next (if f.params ≠ [] then refusedWith f .format s
        else if s.time.subst = true ∧ s.time.refNew = true ∧ s.time.refOld = true then
          granted f [] (m.setTime { s.time with active := .external, subst := false })
        else refusedWith f .state s)

/-! ## Cues -/

/-- R62 to R67: CUE.ADD reads a cue back from the twenty bytes that Table 4-3 gives it, every acceptable cue with every field at
every value; and what it reads from any twenty bytes is acceptable, starts as Table 4-4 says, and has those bytes, a width
that is not used apart. -/
def Obligations.CueRecordsDecodeTheirEncoding : Prop :=
  (∀ c : Cue, c.acceptable → c.fresh → (cueBytes c).length = 20 ∧ parseCue (cueBytes c) = some c) ∧
  ∀ (p : List Byte) (c : Cue), p.length = 20 → parseCue p = some c →
    c.acceptable ∧ c.fresh ∧
    cueBytes c = p.take 8 ++ (if c.action.pulse = true then (p.drop 8).take 3 else [0x00, 0x00, 0x00]) ++ p.drop 11

/-- R61, R73 to R75, R106, R107: CUE.ADD takes the FREE slot with the lowest number; a HOOK cue joins the hook set, an AT_TIME cue
is placed at its due tick, or at the next tick when the due tick is late under LATE_FIRE; the errors come in the order of
R16. -/
def Obligations.CueAddCreatesACue : Prop :=
  ∀ (f : Frame) (s : State), Served f s →
    let m := met f.pins s
    exec (.cueAdd f) s =
      .next (if f.params.length ≠ 20 then refusedWith f .format s
        else match parseCue f.params with
          | none => refusedWith f .param s
          | some c =>
            match c.trigger, (List.finRange 48).find? fun n => (s.cueAt n).isNone with
            | .hook _ _ _, none => refusedWith f .full s
            | .hook _ _ _, some n =>
              granted f (be16 (handleOf s n) ++ [0x03] ++ be32 0 ++ be16 0) (m.setCue n c)
            | .atTime due, free =>
              if BeyondHorizon s.time.tick due then refusedWith f .horizon s
              else if Late s.time.tick due ∧ c.late = .skip then refusedWith f .late s
              else match free with
                | none => refusedWith f .full s
                | some n =>
                  if Late s.time.tick due then
                    granted f (armedPayload (handleOf s n) (s.time.tick + 1) (lateMissed c s.time.tick due))
                      (acceptedLate n c due m)
                  else granted f (armedPayload (handleOf s n) due 0) (acceptedAhead n c due m))

/-- R79: CUE.AMEND moves the first occurrence of an AT_TIME cue whose series has not begun. -/
def Obligations.CueAmendMovesTheFirstOccurrence : Prop :=
  ∀ (f : Frame) (s : State), Served f s →
    let m := met f.pins s
    exec (.cueAmend f) s =
      .next (match f.params with
        | [h, l, b0, b1, b2, b3] =>
          let due : Tick := b0 ++ b1 ++ b2 ++ b3
          match resolveHandle (h ++ l) s with
          | .invalid => refusedWith f .param s
          | .stale => refusedWith f .stale s
          | .live n c =>
            if c.isHook = true ∨ c.begun = true ∨ c.wait.code ≠ 0x01 then refusedWith f .state s
            else if BeyondHorizon s.time.tick due then refusedWith f .horizon s
            else if Late s.time.tick due ∧ c.late = .skip then refusedWith f .late s
            else if Late s.time.tick due then
              granted f (armedPayload (h ++ l) (s.time.tick + 1) (lateMissed c s.time.tick due))
                (acceptedLate n c due m)
            else granted f (armedPayload (h ++ l) due 0) (acceptedAhead n c due m)
        | _ => refusedWith f .format s)

/-- R106 to R110: the late rule. On a cue whose occurrences do not run out: under LATE_SKIP the cue goes on at the first grid tick
after the tick count; under LATE_FIRE it acts at the next tick, for the last grid tick up to the cutoff; the missed occurrences
are the grid ticks passed over, counted and reported once. On a limited series that runs out, a single occurrence and a thaw with
a saturated counter among them: under LATE_SKIP every remaining occurrence is missed and the series ends with cause 02h; under
LATE_FIRE all but the last, which acts at the next tick. For an unlimited series saturation changes nothing. -/
def Obligations.LateRuleKeepsTheGrid : Prop :=
  ∀ (n : Fin 48) (c : Cue) (due sched : Tick) (overdue : Bool) (s : State),
    s.cueAt n = some c → c.wait = .armed due sched overdue →
    let now := s.time.tick
    let passed := (cutoffOf c now - sched).toNat / c.period.toNat
    (c.occurrences ≠ 1 → 2 ≤ c.period.toNat → (cutoffOf c now - sched).toNat + c.period.toNat < 2 ^ 32 →
      (c.occurrences ≠ 0 → passed + 1 < c.remaining.toNat) →
      let r := lateRule n false s
      ∃ (d : Cue) (next grid : Tick), r.state.cueAt n = some d ∧ d.wait = .armed next grid false ∧ r.ended = false ∧
        r.missed * c.period.toNat = (grid - sched).toNat ∧
        d.remaining.toNat = c.remaining.toNat - (if c.occurrences = 0 then 0 else r.missed) ∧
        r.state.cues.missed = s.cues.missed + BitVec.ofNat 32 r.missed ∧
        r.state.notes = (missedReported n c r.missed s).notes ∧
        match c.late with
        | .skip => next = grid ∧ 1 ≤ (grid - now).toNat ∧ (grid - now).toNat ≤ c.period.toNat
        | .fire => next = now + 1 ∧ (cutoffOf c now - grid).toNat < c.period.toNat) ∧
    (∀ saturated : Bool, c.occurrences ≠ 0 → 1 ≤ c.remaining.toNat → (c.occurrences = 1 → c.remaining = 1) →
      (saturated = true ∨ c.occurrences = 1 ∨ c.remaining.toNat ≤ passed + 1) →
      let r := lateRule n saturated s
      match c.late with
      | .skip =>
        let d := { c with begun := true, remaining := 0 }
        r.missed = c.remaining.toNat ∧ r.ended = true ∧
          r.state = seriesEnded n d 0x02 (missedReported n c c.remaining.toNat (s.setCue n d))
      | .fire =>
        let k := c.remaining.toNat - 1
        let grid := if saturated = true then now + 1 else sched + BitVec.ofNat 32 k * c.period
        let d := { c with wait := .armed (now + 1) grid false, begun := c.begun || k != 0, remaining := 1 }
        r.missed = k ∧ r.ended = false ∧ r.state = place n (missedReported n c k (s.setCue n d))) ∧
    (c.occurrences = 0 → lateRule n true s = lateRule n false s)

/-- R58 to R60: a handle is slot times 1024 plus generation and names its cue; freeing the slot makes it stale, and it does not name
the next cue of the slot; from 49152 on a handle names no slot. -/
def Obligations.HandlesNameLiveCues : Prop :=
  (∀ (n : Fin 48) (c : Cue) (s : State), s.cueAt n = some c →
    let h := handleOf s n
    h.toNat = 1024 * n.val + s.cues.slots[n].gen.toNat ∧ resolveHandle h s = .live n c ∧
    resolveHandle h (freeSlot n s) = .stale ∧ ∀ d : Cue, resolveHandle h ((freeSlot n s).setCue n d) = .stale) ∧
  ∀ (h : Half) (s : State), (49152 ≤ h.toNat ↔ resolveHandle h s = .invalid)

/-- R76 to R78: CUE.CANCEL and CUE.PURGE free the slots of the selected cues, except that with mode AFTER a cue IN_PULSE stays and
is marked ending; no channel is written and nothing else changes. -/
def Obligations.CueCancelAndPurgeFreeSlots : Prop :=
  ∀ (f : Frame) (s : State), Served f s →
    let m := met f.pins s
    exec (.cueCancel f) s =
      .next (match f.params with
        | [h, l, mode] =>
          if 1 < mode.toNat then refusedWith f .param s
          else match resolveHandle (h ++ l) s with
            | .invalid => refusedWith f .param s
            | .stale => refusedWith f .stale s
            | .live n c =>
              let ends := mode == 1 && c.inPulse
              granted f [byteB ends] (m.setCues (purged (fun k => k == n) (fun _ => ends) s.cues))
        | _ => refusedWith f .format s) ∧
    exec (.cuePurge f) s =
      .next (match f.params with
        | [h, l, mode, all] =>
          if 1 < mode.toNat ∨ 1 < all.toNat ∨ (all = 0 ∧ h ++ l = (0 : Half)) then refusedWith f .param s
          else
            let selected : Fin 48 → Bool := fun n =>
              match s.cueAt n with
              | none => false
              | some c => all == 1 || c.mask &&& (h ++ l) != 0
            let ending : Fin 48 → Bool := fun n =>
              match s.cueAt n with
              | none => false
              | some c => mode == 1 && c.inPulse
            granted f
              [byteN ((List.finRange 48).countP fun n => selected n && !ending n),
                byteN ((List.finRange 48).countP fun n => selected n && ending n)]
              (m.setCues (purged selected ending s.cues))
        | _ => refusedWith f .format s)

/-- R80 to R82: CUE.QUERY reports a cue, CUE.LIST the due list in its order and CUE.HOOKS the hooked cues in ascending slot order,
twelve handles at most; none of them changes any state. -/
def Obligations.CueReadingCommandsReport : Prop :=
  ∀ (f : Frame) (s : State), Served f s →
    let m := met f.pins s
    let listed : List (Fin 48) → State := fun slots =>
      match f.params with
      | [pos] =>
        if 47 < pos.toNat then refusedWith f .param s
        else
          let part := (slots.drop pos.toNat).take 12
          granted f (byteN slots.length :: byteN part.length :: part.flatMap fun n => be16 (handleOf s n)) m
      | _ => refusedWith f .format s
    exec (.cueList f) s = .next (listed s.cues.due) ∧
    exec (.cueHooks f) s =
      .next (listed ((List.finRange 48).filter fun n =>
        match s.cueAt n with | none => false | some c => c.wait == .hooked)) ∧
    (∀ h l : Byte, f.params = [h, l] → ∃ marks : Byte,
      exec (.cueQuery f) s =
        .next (match resolveHandle (h ++ l) s with
          | .invalid => refusedWith f .param s
          | .stale => refusedWith f .stale s
          | .live _ c =>
            granted f
              ([h, l, c.wait.code, byteAt (cueBytes c) 0, c.action.code, byteAt (cueBytes c) 17] ++ be16 c.mask ++
                be16 c.pending ++ be32 (c.key.getD 0) ++ be32 (c.sched.getD 0) ++
                be16 (if c.occurrences = 0 then 0 else c.remaining) ++ be16 c.tag ++ be32 c.fired ++ [marks]) m) ∧
      ∀ (n : Fin 48) (c : Cue), resolveHandle (h ++ l) s = .live n c → Bits marks [c.begun, c.ending, c.overdue]) ∧
    (f.params.length ≠ 2 → exec (.cueQuery f) s = .next (refusedWith f .format s))

/-- R104, R105: CUE.FREEZE freezes the table with a duration of 0; CUE.THAW ends the freeze and applies the late rule to the
overdue cues in due-list order, reporting how many it handled, ended and missed. -/
def Obligations.FreezeAndThaw : Prop :=
  ∀ (f : Frame) (s : State), Served f s →
    let m := met f.pins s
    exec (.cueFreeze f) s =
      .next (if f.params ≠ [] then refusedWith f .format s
        else if s.cues.frozen = true then refusedWith f .state s
        else granted f [] (m.setCues { s.cues with frozen := true, frozenDur := 0 })) ∧
    exec (.cueThaw f) s =
      .next (if f.params ≠ [] then refusedWith f .format s
        else if s.cues.frozen = false then refusedWith f .state s
        else
          let overdue := s.cues.due.filter fun n =>
            match s.cueAt n with | none => false | some c => c.overdue
          let r := overdue.foldl
            (fun (acc : Nat × Nat × State) n =>
              let r := lateRule n (decide (2 ^ 30 ≤ s.cues.frozenDur)) acc.2.2
              (acc.1 + r.ended.toNat, acc.2.1 + r.missed, r.state))
            (0, 0, m.setCues { s.cues with frozen := false })
          granted f
            (be32 (BitVec.ofNat 32 s.cues.frozenDur) ++ [byteN overdue.length, byteN r.1] ++ be16 (satHalf r.2.1))
            r.2.2)

/-! ## Channels -/

/-- R43, R50, R51: CHAN.SETUP sets drive type, safe level and mark of one channel, refused for a sealed channel and for one owned by
STANDIN; CHAN.SEAL seals channels whoever owns them. Neither writes a level. -/
def Obligations.ChanSetupAndSeal : Prop :=
  ∀ (f : Frame) (s : State), Served f s →
    let m := met f.pins s
    exec (.chanSetup f) s =
      .next (match f.params with
        | [b0, b1, b2, b3] =>
          if h : b0.toNat < 16 then
            if 1 < b1.toNat ∨ 2 < b2.toNat ∨ 1 < b3.toNat then refusedWith f .param s
            else if (b3 == 1) ≠ s.chans[b0.toNat].owned ∧ s.stand.state ≠ .host then refusedWith f .state s
            else if s.chans[b0.toNat].shut = true ∨ (s.chans[b0.toNat].owned = true ∧ s.stand.state ≠ .host) then
              refusedWith f .locked s
            else
              granted f [] (m.setChans (s.chans.set b0.toNat
                { s.chans[b0.toNat] with
                  drive := if b1 = 0 then .pushPull else .openDrain
                  safe := if b2 = 0 then .low else if b2 = 1 then .high else .flt
                  owned := b3 == 1 } h))
          else refusedWith f .param s
        | _ => refusedWith f .format s) ∧
    exec (.chanSeal f) s =
      .next (match f.params with
        | [h, l] =>
          if h ++ l = (0 : Half) then refusedWith f .param s
          else
            granted f (be16 (h ++ l ||| BitVec.ofFnLE fun i : Fin 16 => s.chans[i].shut))
              (m.setChans (Vector.ofFn fun i =>
                { s.chans[i] with shut := s.chans[i].shut || (h ++ l : Half).getLsbD i.val }))
        | _ => refusedWith f .format s)

/-- R44, R48, R52, R99: CHAN.FORCE writes a level kind to every channel of its mask, or is refused as a whole when one of them is
sealed or owned by STANDIN; it takes the channels out of every pending trailing mask and answers which of them any held. -/
def Obligations.ChanForceDrivesAndCuts : Prop :=
  ∀ (f : Frame) (s : State), Served f s →
    exec (.chanForce f) s =
      .next (match f.params with
        | [h, l, k] =>
          let mask : Half := h ++ l
          if 3 < k.toNat ∨ mask = 0 then refusedWith f .param s
          else if (List.finRange 16).any fun i =>
              mask.getLsbD i.val && (s.chans[i].shut || (s.chans[i].owned && s.stand.state != .host)) then
            refusedWith f .locked s
          else
            let kind : LevelKind := if k = 0 then .low else if k = 1 then .high else if k = 2 then .flt else .toggle
            let held : Half := BitVec.ofFnLE fun i : Fin 16 =>
              mask.getLsbD i.val && (List.finRange 48).any fun n =>
                match s.cueAt n with | none => false | some c => c.pending.getLsbD i.val
            granted f (be16 held)
              (cutEverywhere mask ((met f.pins s).setChans (Vector.ofFn fun i =>
                if mask.getLsbD i.val = true then { s.chans[i] with level := levelAfter kind s.chans[i].level }
                else s.chans[i])))
        | _ => refusedWith f .format s)

/-! ## Edges -/

/-- R115, R121 to R123: EDGE.SETUP, EDGE.POLICY, EDGE.READ and EDGE.FLUSH. -/
def Obligations.EdgeCommandsSetAndDrainTheLog : Prop :=
  ∀ (f : Frame) (s : State), Served f s →
    let m := met f.pins s
    exec (.edgeSetup f) s =
      .next (match f.params with
        | [b0, b1, b2] =>
          if h : b0.toNat < 8 then
            if b1.toNat < 1 ∨ 8 < b1.toNat ∨ 3 < b2.toNat then refusedWith f .param s
            else
              granted f [] (m.setEdges { s.edges with
                lines := s.edges.lines.set b0.toNat
                  { length := b1.toNat
                    select := if b2 = 0 then .none else if b2 = 1 then .rising else if b2 = 2 then .falling else .either
                    filtered := .unsettled, runValue := none, runCount := 0 } h })
          else refusedWith f .param s
        | _ => refusedWith f .format s) ∧
    exec (.edgePolicy f) s =
      .next (match f.params with
        | [b0, b1] =>
          if 1 < b0.toNat ∨ b1.toNat < 1 ∨ 64 < b1.toNat then refusedWith f .param s
          else
            granted f [] (m.setEdges { s.edges with
              policy := if b0 = 0 then .keepOldest else .keepNewest, threshold := b1.toNat })
        | _ => refusedWith f .format s) ∧
    exec (.edgeRead f) s =
      .next (match f.params with
        | [n] =>
          if n.toNat < 1 ∨ 3 < n.toNat then refusedWith f .param s
          else
            granted f
              ([byteN (min n.toNat s.edges.log.length), byteN (s.edges.log.length - n.toNat)] ++
                (s.edges.log.take n.toNat).flatMap fun r =>
                  be16 r.seq ++ [packBits [r.gap, false, false, false, r.rising, r.line.val.testBit 2,
                    r.line.val.testBit 1, r.line.val.testBit 0]] ++ be32 r.stamp)
              (m.setEdges { s.edges with log := s.edges.log.drop n.toNat })
        | _ => refusedWith f .format s) ∧
    exec (.edgeFlush f) s =
      .next (if f.params ≠ [] then refusedWith f .format s
        else granted f [byteN s.edges.log.length]
          (m.setEdges { s.edges with log := [], lost := 0, gapPending := false }))

/-! ## Notices -/

/-- R130, R132, R134 to R136: NOTE.FIRST shows the head, NOTE.NEXT retires a lane's head that it names, with the OVERFLOW marker of
a lane that has dropped notices, NOTE.ENABLE sets the ten enables, SYS.UNSTICK reads and clears a latch and its counter. -/
def Obligations.NoteCommandsReadAndRetire : Prop :=
  ∀ (f : Frame) (s : State), Served f s →
    let m := met f.pins s
    exec (.noteFirst f) s =
      .next (if f.params ≠ [] then refusedWith f .format s else granted f (headBytes s.notes s.time.tick) m) ∧
    exec (.noteNext f) s =
      .next (match f.params with
        | [h, l] =>
          if s.notes.urgent.head?.map Notice.seq = some (h ++ l) then
            let u := retired true s.notes s.time.tick
            granted f (headBytes u s.time.tick) (m.setNotes u)
          else if s.notes.routine.head?.map Notice.seq = some (h ++ l) then
            let u := retired false s.notes s.time.tick
            granted f (headBytes u s.time.tick) (m.setNotes u)
          else refusedWith f .sequence s
        | _ => refusedWith f .format s) ∧
    exec (.noteEnable f) s =
      .next (match f.params with
        | [h, l] =>
          if (h ++ l : Half) &&& 0xF801 ≠ 0 then refusedWith f .param s
          else granted f [h, l] (m.setNotes { s.notes with enables := h ++ l })
        | _ => refusedWith f .format s) ∧
    exec (.sysUnstick f) s =
      .next (match f.params with
        | [b] =>
          let clear : Sticky := { latch := false, count := 0 }
          if b = 0x06 then
            granted f (byteB s.notes.conflict.latch :: be16 s.notes.conflict.count)
              (m.setNotes { s.notes with conflict := clear })
          else if b = 0x08 then
            granted f (byteB s.notes.edgesLost.latch :: be16 s.notes.edgesLost.count)
              (m.setNotes { s.notes with edgesLost := clear })
          else if b = 0x0A then
            granted f (byteB s.notes.journalLoss.latch :: be16 s.notes.journalLoss.count)
              (m.setNotes { s.notes with journalLoss := clear })
          else refusedWith f .param s
        | _ => refusedWith f .format s)

/-- R37, R128, R129, R131, R133: one raised notice of a class that is not sticky, and one of each sticky class, CONFLICT queued with
the mask it was raised with and the others with their count, through enable, sticky count, room and queue; and the notices of an
event enter at its end, one after another in the order in which they were raised (log 14). -/
def Obligations.NoticesEnterTheirLanes : Prop :=
  (∀ (u : NoticeUnit) (r : Raised), r.cls ∉ [NoticeClass.conflict, .edgesLost, .journalLoss] →
    let queued : Notice :=
      { seq := u.seq, cls := r.cls, handle := r.handle, tag := r.tag, stamp := r.stamp, detail := r.detail }
    u.enter r =
      if r.cls.urgent = true then
        if 4 ≤ u.urgent.length then { u with urgentDropped := countedOnce u.urgentDropped }
        else { u with urgent := List.append u.urgent [queued], seq := u.seq + 1 }
      else if r.cls ≠ .routineOverflow ∧ u.enables.getLsbD r.cls.code.toNat = false then u
      else if 16 ≤ u.routine.length then { u with routineDropped := countedOnce u.routineDropped }
      else { u with routine := List.append u.routine [queued], seq := u.seq + 1 }) ∧
  (∀ (u : NoticeUnit) (r : Raised),
    (r.cls = .conflict →
      u.enter r = stickyEntered 6 u.conflict (fun k v => { v with conflict := k }) r.detail r u) ∧
    (r.cls = .edgesLost →
      u.enter r =
        stickyEntered 8 u.edgesLost (fun k v => { v with edgesLost := k }) (countedOnce u.edgesLost.count) r u) ∧
    (r.cls = .journalLoss →
      u.enter r =
        stickyEntered 10 u.journalLoss (fun k v => { v with journalLoss := k }) (countedOnce u.journalLoss.count) r u)) ∧
  ∀ s : State,
    (s.notes.raised = [] → (settle s).notes = s.notes) ∧
    ∀ (first : List Raised) (last : Raised), s.notes.raised = first ++ [last] →
      (settle s).notes = (settle (s.setNotes { s.notes with raised := first })).notes.enter last

/-! ## Warden -/

/-- R142, R145, R151, R152: WARD.SETUP while OFF, WARD.ARM, and the confirmed disarm, which the latch locks. -/
def Obligations.WardenSetupArmAndDisarm : Prop :=
  ∀ (f : Frame) (s : State), Served f s →
    let m := met f.pins s
    exec (.wardSetup f) s =
      .next (match f.params with
        | [a1, a0, b1, b0, th, resp] =>
          let tMin : Half := a1 ++ a0
          let tMax : Half := b1 ++ b0
          if tMax.toNat < 2 ∨ 60000 < tMax.toNat ∨ tMax.toNat ≤ tMin.toNat ∨ th.toNat < 1 ∨ 3 < th.toNat ∨
              3 < resp.toNat then refusedWith f .param s
          else if s.ward.armed = true then refusedWith f .state s
          else granted f [] (m.setWard { s.ward with
            tMin := tMin, tMax := tMax, threshold := th.toNat, respStandin := resp.getLsbD 0,
            respHrst := resp.getLsbD 1 })
        | _ => refusedWith f .format s) ∧
    exec (.wardArm f) s =
      .next (if f.params ≠ [] then refusedWith f .format s
        else if s.ward.armed = true then refusedWith f .state s
        else granted f [] (m.setWard { s.ward with
          armed := true, elapsed := 0, closedPhase := false, expected := 1, strikes := 0 })) ∧
    exec (.wardDisarmReq f) s =
      .next (if f.params ≠ [] then refusedWith f .format s
        else if s.ward.armed = false then refusedWith f .state s
        else if s.ward.latch = true then refusedWith f .locked s
        else opened f .disarm m) ∧
    exec (.wardDisarmConfirm f) s =
      .next (if f.params ≠ [] then refusedWith f .format s
        else if s.port.window.map Window.kind ≠ some .disarm then refusedWith f .sequence s
        else if s.ward.armed = false then refusedWith f .state s
        else if s.ward.latch = true then refusedWith f .locked s
        else granted f [] (m.setWard { s.ward with
          armed := false, elapsed := 0, closedPhase := false, strikes := 0, expected := 0 }))

/-- R143, R146 to R149: WARD.BEAT is judged against the warden's state; a bad beat is a fault and is answered ERR_BEAT, and every
beat while armed starts a window with a closed phase. -/
def Obligations.WardBeatIsJudged : Prop :=
  ∀ (f : Frame) (s : State), Served f s →
    let m := met f.pins s
    let restarted : State → State := fun u => u.setWard { u.ward with elapsed := 0, closedPhase := true }
    exec (.wardBeat f) s =
      .next (match f.params with
        | [count] =>
          if s.ward.armed = false then refusedWith f .state s
          else if s.ward.closedPhase = true ∧ s.ward.elapsed.toNat < s.ward.tMin.toNat then
            concluded f none .beat [] (restarted (faulted .early m))
          else if count ≠ s.ward.expected then concluded f none .beat [] (restarted (faulted .wrongCount m))
          else
            granted f ((s.ward.expected + 1) :: be16 s.ward.elapsed)
              (restarted (m.setWard { s.ward with
                strikes := 0, expected := s.ward.expected + 1, beatSince := true }))
        | _ => refusedWith f .format s)

/-! ## Stand-in -/

/-- R161 to R164: STAND.ENTER from HOST drives the stand-in-owned channels to their safe levels with cuts, runs the timebase, takes
the standby image and reports; in stand-in it only adds COMMAND. -/
def Obligations.StandEnterEntersOrAddsItsCause : Prop :=
  ∀ (f : Frame) (s : State), Served f s →
    let u := requested .command (met f.pins s)
    exec (.standEnter f) s =
      .next (if f.params ≠ [] then refusedWith f .format s
        else granted f [s.stand.state.code, u.stand.state.code, u.stand.causes.code] u)

/-- R155, R156, R171 to R173: the confirmed return to HOST, refused while nFSAFE is ASSERTED or an armed warden has strikes or no
beat since the entry; channels keep their levels. -/
def Obligations.StandReturnNeedsTheWardensConsent : Prop :=
  ∀ (f : Frame) (s : State), Served f s →
    let m := met f.pins s
    exec (.standReturnReq f) s =
      .next (if f.params ≠ [] then refusedWith f .format s
        else if s.stand.state = .host then refusedWith f .state s
        else opened f .goBack m) ∧
    exec (.standReturnConfirm f) s =
      .next (if f.params ≠ [] then refusedWith f .format s
        else if s.port.window.map Window.kind ≠ some .goBack then refusedWith f .sequence s
        else if s.stand.state = .host ∨ s.ward.fsafeAsserted = true ∨
            (s.ward.armed = true ∧ (s.ward.strikes ≠ 0 ∨ s.ward.beatSince = false)) then refusedWith f .state s
        else granted f (imageFields (returned m).stand.standby) (returned m))

/-! ## Store -/

/-- R179, R180: STORE.LOAD replaces bytes of the page buffer, STORE.CLEAR makes them all FFh, STORE.READ gives bytes of a page
unless the engine wipes or programs that page. -/
def Obligations.StoreBufferAndRead : Prop :=
  ∀ (f : Frame) (s : State), Served f s → MemoriesCanonical s →
    let m := met f.pins s
    (∀ (off : Byte) (data : List Byte), f.params = off :: data → 1 ≤ data.length → data.length ≤ 16 →
      if 63 < off.toNat ∨ 64 < off.toNat + data.length then exec (.storeLoad f) s = .next (refusedWith f .param s)
      else ∃ buffer : Memory, Overwrites s.store.buffer buffer off.toNat data ∧
        exec (.storeLoad f) s = .next (granted f [] (m.setStore { s.store with buffer := buffer }))) ∧
    (f.params.length < 2 ∨ 17 < f.params.length → exec (.storeLoad f) s = .next (refusedWith f .format s)) ∧
    (f.params = [] → ∃ buffer : Memory, Memory.wf buffer ∧ (∀ a : Nat, buffer.read a = 0xFF) ∧
      exec (.storeClear f) s = .next (granted f [] (m.setStore { s.store with buffer := buffer }))) ∧
    (f.params ≠ [] → exec (.storeClear f) s = .next (refusedWith f .format s)) ∧
    exec (.storeRead f) s =
      .next (match f.params with
        | [page, off, len] =>
          if 31 < page.toNat ∨ 63 < off.toNat ∨ len.toNat < 1 ∨ 24 < len.toNat ∨ 64 < off.toNat + len.toNat then
            refusedWith f .param s
          else
            let busy := match s.store.engine with
              | .idle => false
              | .programming p _ _ => p.val == page.toNat
              | .appending slot _ _ => 24 + slot.val / 4 == page.toNat
              | .wiping _ _ _ => true
            if busy = true then refusedWith f .busy s
            else granted f
              ((List.range len.toNat).map fun i => s.store.pages.read (64 * page.toNat + off.toNat + i)) m
        | _ => refusedWith f .format s)

/-- R176, R181, R183, R184: STORE.OPEN opens the window that STORE.PROGRAM and STORE.WIPE need; a program takes a copy of the buffer
and refuses locked and journal pages; STORE.LOCK adds a group; a wipe needs the warden OFF and HOST. -/
def Obligations.StoreOperationsStart : Prop :=
  ∀ (f : Frame) (s : State), Served f s →
    let m := met f.pins s
    let open' := s.port.window.map Window.kind = some .store
    exec (.storeOpen f) s =
      .next (if f.params ≠ [] then refusedWith f .format s else opened f .store m) ∧
    exec (.storeProgram f) s =
      .next (match f.params with
        | [page] =>
          if h : page.toNat < 32 then
            if ¬open' then refusedWith f .sequence s
            else if (page.toNat = 0 ∧ s.store.lockConfig = true) ∨
                (1 ≤ page.toNat ∧ page.toNat ≤ 8 ∧ s.store.lockStandin = true) ∨
                (9 ≤ page.toNat ∧ page.toNat ≤ 23 ∧ s.store.lockUser = true) ∨ 24 ≤ page.toNat then
              refusedWith f .locked s
            else if s.store.engine ≠ .idle then refusedWith f .busy s
            else granted f [] (m.setStore { s.store with
              engine := .programming ⟨page.toNat, h⟩ ((List.range 64).map s.store.buffer.read) 5 })
          else refusedWith f .param s
        | _ => refusedWith f .format s) ∧
    exec (.storeLock f) s =
      .next (match f.params with
        | [b] =>
          if 2 < b.toNat then refusedWith f .param s
          else if (match s.store.engine with
              | .idle => false
              | .programming _ _ _ => false
              | .appending _ _ _ => false
              | .wiping _ _ _ => true) = true then refusedWith f .busy s
          else
            let c := s.store.lockConfig || b == 0
            let i := s.store.lockStandin || b == 1
            let u := s.store.lockUser || b == 2
            granted f [packBits [u, i, c]]
              (m.setStore { s.store with lockConfig := c, lockStandin := i, lockUser := u })
        | _ => refusedWith f .format s) ∧
    exec (.storeWipe f) s =
      .next (if f.params ≠ [] then refusedWith f .format s
        else if ¬open' then refusedWith f .sequence s
        else if s.ward.armed = true ∨ s.stand.state ≠ .host then refusedWith f .state s
        else if s.store.engine ≠ .idle then refusedWith f .busy s
        else granted f [] (m.setStore { s.store with engine := .wiping 0 125 0 }))

/-- R190, R192, R193: the scan of the ring goes on from its newest record, and STORE.JOURNAL gives the valid records from the newest,
which is newer than as many others as any and the lowest slot of those; the others follow by age, among equals by slot. Any
other number of parameters is answered ERR_FORMAT. -/
def Obligations.StoreJournalReadsFromTheNewest : Prop :=
  ∀ (f : Frame) (s : State), Served f s →
    (f.params.length ≠ 1 → exec (.storeJournal f) s = .next (refusedWith f .format s)) ∧
    ∀ index : Byte, f.params = [index] →
    let bytes : Nat → List Byte := fun k =>
      (List.range 16).map fun i => s.store.pages.read (64 * (24 + k / 4) + 16 * (k % 4) + i)
    let valid : Nat → Prop := fun k => k < 32 ∧ byteAt (bytes k) 2 ≠ 0xFF ∧ byteAt (bytes k) 15 = crc8 ((bytes k).take 15)
    let seq : Nat → Half := fun k => halfAt (bytes k) 0
    let age : Nat → Nat → Nat := fun n k => (seq n - seq k).toNat
    let beaten : List Nat → Nat → Nat := fun slots k =>
      slots.countP fun j => decide (1 ≤ (seq k - seq j).toNat ∧ (seq k - seq j).toNat ≤ 32767)
    ∃ slots : List Nat, slots.Nodup ∧ (∀ k, k ∈ slots ↔ valid k) ∧
      (∀ newest rest, slots = newest :: rest →
        (∀ k ∈ rest, beaten slots k < beaten slots newest ∨ (beaten slots k = beaten slots newest ∧ newest < k)) ∧
        rest.Pairwise fun j k => age newest j < age newest k ∨ (age newest j = age newest k ∧ j < k)) ∧
      scanRing s.store.pages =
        (match slots with
          | [] => (0, 0)
          | newest :: _ => (Fin.ofNat 32 (newest + 1), seq newest + 1)) ∧
      exec (.storeJournal f) s =
        .next (if 31 < index.toNat then refusedWith f .param s
          else if (match s.store.engine with
              | .idle => false
              | .programming p _ _ => decide (24 ≤ p.val)
              | .appending _ _ _ => true
              | .wiping _ _ _ => true) = true then refusedWith f .busy s
          else match slots[index.toNat]? with
            | none => granted f [0x00, byteN slots.length] (met f.pins s)
            | some k => granted f ([0x01, byteN slots.length] ++ bytes k) (met f.pins s))

/-! ## Ticks -/

/-- R30, R31, R33, R36: a tick is processed while the port is ready and the timebase runs: the count, the lines in the order 0 to 7,
each with its qualified edge before the next (R112, R114), the cues, the stand-in program, and last the pins and the notices; nCS
found high lets a pending soft reset take effect first (log 7). -/
def Obligations.TicksRunTheirStagesInOrder : Prop :=
  ∀ (pins : InPins) (s : State),
    (s.sys.softPending = true ∧ pins.nCs = true → exec (.tick pins) s = .next (met pins (takeReset .soft s))) ∧
    (¬(s.sys.softPending = true ∧ pins.nCs = true) →
      exec (.tick pins) s =
        .next (if Ticking s then
          settle (standStage (cueStage ((List.finRange 8).foldl lineServed (tickCounted (met pins s)))))
        else met pins s))

/-- R36: no tick changes the port, the warden, the store, reset control, any channel's configuration or owner, or the stand-in
engine, but for its cycle position, its masked count and the end of a ONCE program. -/
def Obligations.TicksLeaveTheOtherBlocksAlone : Prop :=
  ∀ (pins : InPins) (s t : State), Ticking s → s.sys.softPending = false → s.notes.raised = [] →
    exec (.tick pins) s = .next t →
    t.port = (met pins s).port ∧ t.ward = s.ward ∧ t.store = s.store ∧ t.sys = s.sys ∧ t.free = s.free ∧ t.pending = s.pending ∧
    t.time = { s.time with tick := s.time.tick + 1, divider := 0 } ∧ t.pins.inputs = pins ∧ PinsShown t ∧
    (∀ i : Fin 16, { t.chans[i] with level := s.chans[i].level } = s.chans[i]) ∧ standinOwned t = standinOwned s ∧
    { t.stand with state := s.stand.state, pos := s.stand.pos, masked := s.stand.masked } = s.stand ∧
    (t.stand.state = s.stand.state ∨ (s.stand.state = .run ∧ t.stand.state = .ended)) ∧
    t.cues.frozen = s.cues.frozen ∧ t.edges.policy = s.edges.policy ∧ t.edges.threshold = s.edges.threshold ∧
    t.notes.enables = s.notes.enables ∧ t.notes.urgent = s.notes.urgent

/-- R112, R113: each tick samples each line once; the filtered level follows a run of the filter length, and the first sample of
an UNSETTLED line. -/
def Obligations.EveryTickSamplesEveryLine : Prop :=
  ∀ (pins : InPins) (s t : State), Ticking s → s.sys.softPending = false → exec (.tick pins) s = .next t →
    ∀ i : Fin 8, t.edges.lines[i] = lineSampled (pins.ins.getLsbD i.val) s.edges.lines[i]

/-- R114, R116 to R120: a qualified edge changes the filtered level, is handed to the edge log and then to the hook set. That the row
is an event of its own, which ends with notices and pins and does nothing when there is no edge or no tick is processed, is the
model's choice (log 5). -/
def Obligations.QualifiedEdgesReachLogAndHooks : Prop :=
  ∀ (line : Fin 8) (s : State),
    exec (.qualifiedEdge line) s =
      .next (match edgeOf s.edges.lines[line] with
        | none => s
        | some rising =>
          if Ticking s then
            settle (hookEdge line rising (edgeLogged line rising (s.setEdges { s.edges with
              lines := s.edges.lines.set line.val
                { s.edges.lines[line] with filtered := if rising = true then .high else .low } line.isLt })))
          else s)

/-- R102, R103: an edge arms every HOOKED cue that it matches and retriggers every ARMED one that has RETRIGGER and has not
begun, at the tick count plus the delay, and places each in the due list, in ascending slot order; no other cue and no other
block changes. -/
def Obligations.EdgesArmMatchingCues : Prop :=
  ∀ (line : Fin 8) (rising : Bool) (s : State),
    let t := hookEdge line rising s
    (∀ n : Fin 48, t.cueAt n =
      match s.cueAt n with
      | none => none
      | some c =>
        match c.trigger, c.wait with
        | .hook l e delay, .hooked =>
          if l = line ∧ (e = .either ∨ e = (if rising = true then .rising else .falling)) then
            let due := s.time.tick + delay.setWidth 32
            some { c with wait := .armed due due false }
          else some c
        | .hook l e delay, .armed _ _ _ =>
          if l = line ∧ (e = .either ∨ e = (if rising = true then .rising else .falling)) ∧ c.retrigger = true ∧
              c.begun = false then
            let due := s.time.tick + delay.setWidth 32
            some { c with wait := .armed due due false }
          else some c
        | _, _ => some c) ∧
    t = s.setCues { s.cues with slots := t.cues.slots, due := t.cues.due } ∧
    (∀ n : Fin 48, t.cues.slots[n].gen = s.cues.slots[n].gen) ∧
    t = (List.finRange 48).foldl (hookMet line rising) s

/-- R86 to R89: the trailing edge of a due pulse turns the channels still in its mask, cuts nothing, and completes the occurrence,
or frees the slot of an ending cue; that the row is an event of its own, and does nothing when it is not due, is the model's choice
(log 5). R69 to R71: a placement, as the completion makes one, puts the cue behind every entry that stands ahead of it, last among
equals, and before every other, moves no other entry, and keeps the list in its order. -/
def Obligations.TrailingEdgesCompletePulses : Prop :=
  (∀ (n : Fin 48) (s : State),
    exec (.trailingEdge n) s =
      .next (match s.cueAt n with
        | none => s
        | some c =>
          match c.wait with
          | .armed _ _ _ => s
          | .hooked => s
          | .inPulse trail sched mask ending =>
            if Ticking s ∧ trail = s.time.tick then settle (trailed n c trail sched mask ending s) else s)) ∧
  ∀ (n : Fin 48) (c : Cue) (s : State), s.cueAt n = some c → c.key.isSome = true → c.overdue = false →
    let others := s.cues.due.filter fun m => m != n
    (∀ m ∈ others, Listed s m) → others.Pairwise (StandsBefore s) →
    ∃ front back : List (Fin 48), front ++ back = others ∧
      place n s = s.setCues { s.cues with due := front ++ n :: back } ∧
      (∀ m ∈ front, StandsBefore s m n) ∧ (∀ m ∈ back, ¬StandsBefore s m n) ∧
      (front ++ n :: back).Pairwise (StandsBefore s)

/-- R68, R85, R90 to R97: at its tick an ARMED cue acts: guard, write with cuts and masking, firing, and the completion of the
occurrence or the pulse; while the table is frozen it becomes overdue instead and keeps its position. That each row is an event of
its own, and does nothing when it is not due, is the model's choice (log 5). -/
def Obligations.DueCuesFireOrBecomeOverdue : Prop :=
  ∀ (n : Fin 48) (s : State),
    exec (.leadingAction n) s =
      .next (match s.cueAt n with
        | none => s
        | some c =>
          match c.wait with
          | .armed due sched overdue =>
            if Ticking s ∧ due = s.time.tick ∧ overdue = false ∧ s.cues.frozen = false then settle (led n c sched s)
            else s
          | .inPulse _ _ _ _ => s
          | .hooked => s) ∧
    exec (.cueOverdue n) s =
      .next (match s.cueAt n with
        | none => s
        | some c =>
          match c.wait with
          | .armed due sched overdue =>
            if Ticking s ∧ due = s.time.tick ∧ overdue = false ∧ s.cues.frozen = true then
              settle (s.setCue n { c with wait := .armed due sched true })
            else s
          | .inPulse _ _ _ _ => s
          | .hooked => s)

/-- R85, R86, R90, R98, R101: the cue stage of a tick. The cues due are fixed at its start; the trailing edges are applied first and
then the leading actions, each in due-list order, and while the table is frozen the due ARMED cues become overdue instead. A
channel that the leading actions of the tick drove to two levels or more is a conflict channel; a tick with any counts once and
raises one CONFLICT with their mask, after every other notice of the stage. -/
def Obligations.ConflictsCompareResultingLevels : Prop :=
  ∀ s : State, DueListSound s →
    let start := ((s.cues.due.filter (trailsNow s)).foldl trailedOne
      ((s.cues.due.filter (armedNow true s)).foldl passedOne s))
    let leads := s.cues.due.filter (armedNow false s)
    let after := leads.foldl ledOne start
    ∃ mask : Half,
      (∀ i : Fin 16, mask.getLsbD i.val = true ↔ ∃ l k : Level, l ≠ k ∧ LedTo leads start i l ∧ LedTo leads start i k) ∧
      cueStage s =
        if mask = 0 then after
        else raise .conflict 0 0 mask (after.setCues { after.cues with conflicts := after.cues.conflicts + 1 })

/-- R168, R169: in RUN the stand-in stage writes the steps at the cycle position, in list order, to the stand-in-owned channels of
their masks, with cuts, and advances; the advance that reaches the cycle length begins a CYCLE program again and ends a ONCE
program. That the end of a cycle is also an event of its own, and nothing when it is not due, is the model's choice (log 5). -/
def Obligations.ProgramsRunThroughTheirCycle : Prop :=
  ∀ s : State,
    let ended : Image → State → State := fun x u => u.setStand (match x.mode with
      | .cycle => { u.stand with pos := 0 }
      | .once => { u.stand with state := .ended, pos := x.length })
    standStage s =
      (match s.stand.state, s.stand.active with
        | .run, some x =>
          let t := (x.steps.filter fun y => y.offset == s.stand.pos).foldl
            (fun u y =>
              cutEverywhere (y.mask &&& ownedMask u) (u.setChans (written (y.mask &&& ownedMask u) y.kind u.chans))) s
          if s.stand.pos + 1 = x.length then ended x t else t.setStand { s.stand with pos := s.stand.pos + 1 }
        | _, _ => s) ∧
    exec .standinCycleEnd s =
      .next (match s.stand.active with
        | none => s
        | some x =>
          if Ticking s ∧ s.stand.state = .run ∧ s.stand.pos + 1 = x.length then settle (ended x s) else s)

/-! ## Warden-millisecond events -/

/-- R26, R38, R195: a warden-millisecond event runs its seven steps while the port is ready, moves only the counter until then, and
does nothing while a reset is in effect; nCS found high lets a pending soft reset take effect first (log 7). -/
def Obligations.WardenMillisecondsRunTheirSteps : Prop :=
  ∀ (ms : MsInputs) (s : State),
    (s.sys.softPending = true ∧ ms.pins.nCs = true →
      exec (.wardenMsEvent ms) s = .next (met ms.pins (takeReset .soft s))) ∧
    (¬(s.sys.softPending = true ∧ ms.pins.nCs = true) →
      let m := met ms.pins s
      exec (.wardenMsEvent ms) s =
        .next (match s.sys.phase with
          | .inReset => m
          | .poweringUp _ => (msCounted 1 m).setTime { (msCounted 1 m).time with xinSeen := s.time.xinSeen || ms.xinEdge }
          | .ready =>
            let before := fsafeSampled (monitored ms.xinEdge m)
            let after := wardenAdvanced before
            let timed := if PulseStarts before then after else after.setWard { after.ward with hrst := after.ward.hrst - 1 }
            settle (storeStep (s.store.engine != .idle) ms.takes (lifetimeCounted timed))))

/-- R19, R28, R144, R150: the ends of the window's lifetime, of a closed phase and of the nHRST pulse, and clock substitution, each
when it is due at a ready port. That each of these steps is also an event of its own, and nothing when it is not due, is the
model's choice (log 5). -/
def Obligations.DueStepsTakePlace : Prop :=
  ∀ s : State,
    exec .confirmWindowExpiry s =
      .next (if s.sys.phase = .ready ∧ ∃ w, s.port.window = some w ∧ w.remaining ≤ 1 then
        settle (s.setPort { s.port with window := none }) else s) ∧
    exec .closedPhaseEnd s =
      .next (if s.sys.phase = .ready ∧ s.ward.armed = true ∧ s.ward.closedPhase = true ∧
          s.ward.elapsed + 1 = s.ward.tMin then
        settle (s.setWard { s.ward with elapsed := s.ward.tMin }) else s) ∧
    exec .nhrstPulseEnd s =
      .next (if s.sys.phase = .ready ∧ s.ward.hrst = 1 then settle (s.setWard { s.ward with hrst := 0 }) else s) ∧
    exec .clockSubst s =
      .next (if s.sys.phase = .ready ∧ ReferenceLost s then settle (substituted s) else s)

/-- R144, R148, R149, R153, R154, R161: the third opposing sample of nFSAFE asserts it, with stand-in entry, or clears it; the warden's
timeout records a LATE fault with its response and starts a window without a closed phase. That each of these steps is also an
event of its own, and nothing when it is not due, is the model's choice (log 5). -/
def Obligations.FailuresAreRecorded : Prop :=
  ∀ s : State,
    exec .fsafeAssert s =
      .next (if s.sys.phase = .ready ∧ s.ward.fsafeEnable = true ∧ s.ward.fsafeAsserted = false ∧
          s.pins.inputs.nFsafe = false ∧ 2 ≤ s.ward.fsafeRun then settle (fsafeAsserted s) else s) ∧
    exec .fsafeClear s =
      .next (if s.sys.phase = .ready ∧ s.ward.fsafeEnable = true ∧ s.ward.fsafeAsserted = true ∧
          s.pins.inputs.nFsafe = true ∧ 2 ≤ s.ward.fsafeRun then settle (fsafeCleared s) else s) ∧
    exec .wardenTimeout s =
      .next (if s.sys.phase = .ready ∧ s.ward.armed = true ∧ s.ward.elapsed + 1 = s.ward.tMax then
        settle (timedOut s) else s)

/-! ## The store engine -/

/-- R178, R189, R191: a journal record takes the facts of its moment and waits on the queue, is appended at once by an IDLE engine, or
is lost to a queue of four; an append takes the next slot and the next sequence. That its start is also an event of its own, and
nothing when it is not due, is the model's choice (log 5). -/
def Obligations.JournalRecordsWaitForTheEngine : Prop :=
  ∀ s : State,
    (∀ (kind : JournalKind) (detail : Byte),
      let record : JournalRecord :=
        { kind := kind, detail := detail, tick := s.time.tick, ms := s.time.wardenMs, causes := s.stand.causes }
      let queued := s.setStore { s.store with queue := List.append s.store.queue [record] }
      queueJournal kind detail s =
        if 4 ≤ s.store.queue.length then
          raise .journalLoss 0 0 0 (s.setStore { s.store with journalLost := countedOnce s.store.journalLost })
        else if s.store.engine = .idle then appendStarted queued
        else queued) ∧
    exec .journalAppendStart s =
      .next (if s.sys.phase = .ready ∧ s.store.engine = .idle ∧ s.store.queue ≠ [] then settle (appendStarted s) else s)

/-- R177, R182, R184, R189, R191: the last event of a program, an append and an erase leaves its bytes, or bytes that differ from
them (which, is open: log 10), in its own addresses alone, and reports; the end of a wipe empties the lock set; any other event counts
one off; but the event in which an operation started leaves it as it is (step 7 of
an event that began with an IDLE engine). That each completion is also an event of its own, and nothing when it is not due, is the
model's choice (log 5). -/
def Obligations.StoreOperationsComplete : Prop :=
  ∀ (takes : Bool) (s : State), s.sys.phase = .ready → MemoriesCanonical s →
    (∀ page data left, s.store.engine = .programming page data left → data ≠ [] → left ≤ 1 →
      ∃ (bytes : List Byte) (pages : Memory), bytes.length = data.length ∧ (bytes = data ↔ takes = true) ∧
        Overwrites s.store.pages pages (64 * page.val) bytes ∧
        settle (storeStep true takes s) = settle (programEnded page takes pages s) ∧
        exec (.storeProgramComplete takes) s = .next (settle (programEnded page takes pages s))) ∧
    (∀ slot record left, s.store.engine = .appending slot record left → record.length = 16 → left ≤ 1 →
      ∃ (bytes : List Byte) (pages : Memory), bytes.length = 16 ∧ (bytes = record ↔ takes = true) ∧
        Overwrites s.store.pages pages (64 * (24 + slot.val / 4) + 16 * (slot.val % 4))
          (List.append bytes (if slot.val % 4 = 0 then List.replicate 48 0xFF else [])) ∧
        settle (storeStep true takes s) = settle (appendEnded slot takes pages s) ∧
        exec (.journalAppendComplete takes) s = .next (settle (appendEnded slot takes pages s))) ∧
    (∀ page left failed, s.store.engine = .wiping page left failed → page < 24 → (left - 1) % 5 = 0 →
      ∃ (bytes : List Byte) (pages : Memory), bytes.length = 64 ∧ (bytes = List.replicate 64 0xFF ↔ takes = true) ∧
        Overwrites s.store.pages pages (64 * page) bytes ∧
        settle (storeStep true takes s) = settle (eraseEnded page left failed takes pages s) ∧
        exec (.wipeStepComplete takes) s = .next (settle (eraseEnded page left failed takes pages s))) ∧
    (∀ page left failed, s.store.engine = .wiping page left failed → 24 ≤ page → left ≤ 1 →
      settle (storeStep true takes s) = settle (wipeEnded failed s) ∧
      exec .wipeComplete s = .next (settle (wipeEnded failed s))) ∧
    (∀ page data left, s.store.engine = .programming page data (left + 2) →
      exec (.storeProgramComplete takes) s = .next s ∧
      storeStep true takes s = s.setStore { s.store with engine := .programming page data (left + 1) }) ∧
    (∀ slot record left, s.store.engine = .appending slot record (left + 2) →
      exec (.journalAppendComplete takes) s = .next s ∧
      storeStep true takes s = s.setStore { s.store with engine := .appending slot record (left + 1) }) ∧
    (∀ page left failed, s.store.engine = .wiping page left failed →
      (if page < 24 then (left - 1) % 5 ≠ 0 else 2 ≤ left) →
      exec (.wipeStepComplete takes) s = .next s ∧ exec .wipeComplete s = .next s ∧
      storeStep true takes s = s.setStore { s.store with engine := .wiping page (left - 1) failed }) ∧
    storeStep false takes s = (if s.store.engine = .idle then appendStarted s else s) ∧
    (JournalSound s → storeStep false takes s = s)

/-! ## Reset and power-up -/

/-- R23, R41, R185, R195, R196, R201: a reset sets every volatile item to its reset value and keeps the pages, apart from what it
interrupts, the lock set and the cause set, the last through POWER_ON and BROWNOUT until the release (log 23); the kind is noted;
waiting ticks, warden-millisecond events and command-class events are abandoned (the queue is the model's, log 18); MISO carries
what the transaction in progress had sent (how much, is open: log 26), then 00h. Every volatile item whose value
Tables 11-1 to 11-5 give has that value; values that no rule gives are those of the log (6, 8). -/
def Obligations.ResetsKeepTheStoreLocksAndCauses : Prop :=
  ∀ s : State, MemoriesCanonical s → ∃ (pages : Memory) (sentBits : Nat),
    Interrupted s.store.engine s.store.pages pages ∧ sentBits ≤ s.port.miso.length ∧
    (s.pins.inputs.nCs = true → sentBits = s.port.miso.length) ∧
    let miso := List.append (s.port.miso.take sentBits) (List.replicate (s.port.miso.length - sentBits) false)
    exec .powerOnReset s = .next (resetWith { s.sys.asserted with powerOn := true } pages miso s) ∧
    exec .brownoutReset s = .next (resetWith { s.sys.asserted with brownout := true } pages miso s) ∧
    exec .pinReset s = .next (resetWith { s.sys.asserted with pin := true } pages miso s) ∧
    takeReset .soft s = resetWith { s.sys.asserted with soft := true } pages s.port.miso s ∧
    ∀ (asserted : ResetSet) (levels : List Bool), ResetValues (resetWith asserted pages levels s)

/-- R22, R187, R195, R196, R199, R200: the release and the nine steps in their order, as far as the sequence has come when the next
event is served, with the warden milliseconds that pass between them (log 13); a further row goes on from there; the port is ready
at the end of step 9, which is also PORT_READY when the other eight are done (log 5), and goes on ignoring a transaction that nCS,
low at that moment, shows in progress (as last met: log 27). -/
def Obligations.PowerUpRunsItsSteps : Prop :=
  ∀ s : State,
    (∀ p : PowerUp,
      exec (.powerUpSequence p) s =
        .next (match s.sys.phase with
          | .inReset => sequenced p 0 (released p s)
          | .poweringUp done =>
            if done.val < p.steps.val then
              sequenced p done.val ((met p.pins s).setTime { s.time with xinSeen := s.time.xinSeen || p.xinEdge })
            else s
          | .ready => s)) ∧
    exec .portReady s =
      .next (if s.sys.phase = .poweringUp 8 then settle (madeReady s) else s)

/-- R187, R188, R190: a configuration record, an image in its bank whatever follows it, and a journal record are read back with every
field at every value that their tables admit. Conversely, a page read as a valid record is the record of storable values, and a
bank read as valid begins with a storable image; an erased page 0 is no record, and any other is bad by the first check that fails:
the CRC, the format byte, the fields in byte order. -/
def Obligations.StoredFormatsDecodeTheirEncodings : Prop :=
  (∀ c : ConfigRecord, c.storable → (configBytes c).length = 64 ∧ classRecord (configBytes c) = .valid c) ∧
  classRecord (List.replicate 64 0xFF) = .erased ∧
  (∀ p : List Byte, p.length = 64 → p ≠ List.replicate 64 0xFF → crc16 (p.take 62) ≠ halfAt p 62 →
    classRecord p = .bad 0xFF 1) ∧
  (∀ p : List Byte, p.length = 64 → p ≠ List.replicate 64 0xFF → crc16 (p.take 62) = halfAt p 62 →
    (byteAt p 0 ≠ 0x01 → classRecord p = .bad 0 2) ∧
    (byteAt p 0 = 0x01 →
      (∀ i : Nat, FieldFails p i → (∀ j : Nat, j < i → ¬FieldFails p j) → classRecord p = .bad i 3) ∧
      ((∀ i : Nat, ¬FieldFails p i) → ∃ c : ConfigRecord, classRecord p = .valid c))) ∧
  (∀ (p : List Byte) (c : ConfigRecord), p.length = 64 → classRecord p = .valid c → c.storable ∧ configBytes c = p) ∧
  (∀ (x : Image) (rest : List Byte), x.storable → parseImage x.bank (imageBytes x ++ rest) = some x) ∧
  (∀ (k : Bank) (p : List Byte) (x : Image), p.length = 256 → parseImage k p = some x →
    x.bank = k ∧ x.storable ∧ ∃ rest : List Byte, p = imageBytes x ++ rest) ∧
  (∀ (seq : Half) (r : JournalRecord), (recordBytes seq r).length = 16 ∧ slotValid (recordBytes seq r) = true ∧
    recordSeq (recordBytes seq r) = seq ∧
    (recordBytes seq r).take 15 =
      be16 seq ++ [r.kind.code, r.detail] ++ be32 r.tick ++ be32 r.ms ++ [r.causes.code, 0x00, 0x00])

/-! ## Invariants -/

/-- R42, R45, R46, R129, R137, R139, R150, R176, R178, R189: from every state, a step keeps the canonical form of pages and buffer,
the bounds of the journal queue, which is empty while the engine is IDLE, the bounds of the lanes, and the output pins showing the
channels, the lanes and the nHRST timer. -/
def Obligations.StoreLanesAndPinsStaySound : Prop :=
  KeptByEveryStep MemoriesCanonical ∧ KeptByEveryStep JournalSound ∧ KeptByEveryStep LanesSound ∧ KeptByEveryStep PinsShown

/-- R57, R67, R68: every step keeps the due list the list of the cues ARMED or IN_PULSE, each once, and every remaining count in its
range. -/
def Obligations.DueListHoldsTheWaitingCues : Prop := KeptByEveryStep DueListSound ∧ KeptByEveryStep RemainingSound

/-- R47 to R49, R84, R100: every step keeps the pending trailing masks apart from each other and from the channels owned by STANDIN,
each channel in one at the level of its leading edge, and the cue table empty until the port is ready. -/
def Obligations.PulsesHoldTheirChannels : Prop :=
  KeptByEveryStep fun s => TableEmptyInReset s ∧ PulsesSound s ∧ TrailingMasksHostOwned s

/-- R19, R22, R33, R34, R111, R121, R141, R143, R144, R159 to R162, R168, R169: every step keeps the stand-in engine, the warden, and
the window, divider, filters and edge log in their states and ranges; only a ready port with nCS low still ignores a transaction
that was in progress when it became ready (log 27). -/
def Obligations.BlocksStayInTheirRanges : Prop :=
  KeptByEveryStep StandSound ∧ KeptByEveryStep WardenSound ∧ KeptByEveryStep RangesSound ∧ KeptByEveryStep IgnoringSound

/-- R42, R84, R111, R125, R137, R141, R159, R176, R195, R201: right after reset every volatile item has the value of Tables 11-1 to
11-5, and a new part every page erased, an empty lock set and POWER_ON asserted (which reset State.reset is: log 3, 19); and the
invariants hold (reset values that no rule gives: log 6, 8, 19). -/
def Obligations.InvariantsHoldAtReset : Prop :=
  ResetValues State.reset ∧ (∀ a : Nat, State.reset.store.pages.read a = 0xFF) ∧
  (State.reset.store.lockConfig = false ∧ State.reset.store.lockStandin = false ∧ State.reset.store.lockUser = false) ∧
  State.reset.sys.asserted = { powerOn := true, brownout := false, pin := false, soft := false } ∧
  MemoriesCanonical State.reset ∧ JournalSound State.reset ∧ LanesSound State.reset ∧ PinsShown State.reset ∧
    DueListSound State.reset ∧ RemainingSound State.reset ∧ TableEmptyInReset State.reset ∧ PulsesSound State.reset ∧
    TrailingMasksHostOwned State.reset ∧ StandSound State.reset ∧ WardenSound State.reset ∧ RangesSound State.reset ∧
    IgnoringSound State.reset
end

