-- ==== Sys2Proof/Laws/Memory.lean ====
section
/-! SUPPORT. The laws of the addressed memories (R176, R179): a write keeps the canonical form, is read back, and leaves every other
address alone; so do the runs, the interrupted writes and reset. -/

namespace Sys2Proof.Machine

/-! ## Canonical form -/

/-- The head and the rest of a canonical memory. -/
theorem Memory.wf_cons {k : Nat} {c : Byte} {rest : Memory} :
    Memory.wf ((k, c) :: rest) ↔ (∀ d ∈ rest, k < d.1) ∧ c ≠ 0xFF ∧ Memory.wf rest := by
  simp only [Memory.wf, List.pairwise_cons, List.mem_cons, forall_eq_or_imp]
  tauto

theorem Memory.wf_nil : Memory.wf [] := by simp [Memory.wf]

/-- The addresses that a write lists. -/
theorem Memory.write_mem {m : Memory} {a : Nat} {b : Byte} {d : Host.Cell} (h : d ∈ m.write a b) :
    d = (a, b) ∧ b ≠ 0xFF ∨ d ∈ m := by
  induction m with
  | nil =>
    simp only [Memory.write] at h
    by_cases e : b = erasedByte
    · simp [e] at h
    · rw [if_neg e] at h
      exact .inl ⟨List.mem_singleton.1 h, e⟩
  | cons x rest ih =>
    obtain ⟨k, c⟩ := x
    simp only [Memory.write] at h
    split at h
    · by_cases e : b = erasedByte
      · rw [if_pos e] at h
        exact .inr h
      · rw [if_neg e] at h
        exact (List.mem_cons.1 h).imp (⟨·, e⟩) id
    · split at h
      · by_cases e : b = erasedByte
        · rw [if_pos e] at h
          exact .inr (by simp [h])
        · rw [if_neg e] at h
          exact (List.mem_cons.1 h).imp (⟨·, e⟩) (fun h => by simp [h])
      · rcases List.mem_cons.1 h with h | h
        · exact .inr (by simp [h])
        · rcases ih h with h | h
          · exact .inl h
          · exact .inr (by simp [h])

/-- A write keeps the canonical form. -/
theorem Memory.wf_write {m : Memory} (h : Memory.wf m) (a : Nat) (b : Byte) : Memory.wf (m.write a b) := by
  induction m with
  | nil =>
    by_cases e : b = erasedByte
    · rw [Memory.write, if_pos e]
      exact Memory.wf_nil
    · rw [Memory.write, if_neg e, Memory.wf_cons]
      exact ⟨by simp, e, Memory.wf_nil⟩
  | cons x rest ih =>
    obtain ⟨k, c⟩ := x
    obtain ⟨hk, hc, hr⟩ := Memory.wf_cons.1 h
    simp only [Memory.write]
    split
    · rename_i hlt
      by_cases hb : b = erasedByte
      · rw [if_pos hb]
        exact h
      · rw [if_neg hb]
        refine Memory.wf_cons.2 ⟨fun d hd => ?_, hb, h⟩
        rcases List.mem_cons.1 hd with rfl | hd
        · exact hlt
        · exact hlt.trans (hk d hd)
    · split
      · rename_i hak
        by_cases hb : b = erasedByte
        · rw [if_pos hb]
          exact hr
        · rw [if_neg hb]
          exact Memory.wf_cons.2 ⟨fun d hd => hak ▸ hk d hd, hb, hr⟩
      · refine Memory.wf_cons.2 ⟨fun d hd => ?_, hc, ih hr⟩
        rcases Memory.write_mem hd with ⟨rfl, -⟩ | hd
        · simp only
          omega
        · exact hk d hd

/-- A run of writes keeps the canonical form. -/
theorem Memory.wf_writeRun {m : Memory} (h : Memory.wf m) (a : Nat) (data : List Byte) :
    Memory.wf (m.writeRun a data) := by
  induction data generalizing m a with
  | nil => exact h
  | cons b bs ih => exact ih (Memory.wf_write h a b) (a + 1)

/-- An interrupted write keeps the canonical form (R185). -/
theorem Memory.wf_tear {m : Memory} (h : Memory.wf m) (n base : Nat) (new : List Byte) : Memory.wf (m.tear n base new) :=
  Memory.wf_writeRun h base _

/-- R201: reset's memories have it. -/
theorem reset_memories_wf : Memory.wf State.reset.store.pages ∧ Memory.wf State.reset.store.buffer :=
  ⟨Memory.wf_nil, Memory.wf_nil⟩

/-! ## Reading what was written -/

/-- An address below every listed one reads as erased. -/
theorem Memory.read_of_lt {m : Memory} {a : Nat} (h : ∀ d ∈ m, a < d.1) : m.read a = 0xFF := by
  induction m with
  | nil => rfl
  | cons x rest ih =>
    obtain ⟨k, c⟩ := x
    have hk : a < k := h (k, c) (by simp)
    rw [Memory.read, if_neg (by omega)]
    exact ih fun d hd => h d (by simp [hd])

/-- A byte that was written is read back; every other address reads as before. -/
theorem Memory.read_write {m : Memory} (h : Memory.wf m) (a : Nat) (b : Byte) (x : Nat) :
    (m.write a b).read x = if x = a then b else m.read x := by
  induction m with
  | nil =>
    by_cases e : b = erasedByte
    · simp [Memory.write, e, Memory.read]
    · simp [Memory.write, e, Memory.read]
  | cons y rest ih =>
    obtain ⟨k, c⟩ := y
    obtain ⟨hk, -, hr⟩ := Memory.wf_cons.1 h
    simp only [Memory.write]
    split
    · rename_i hlt
      by_cases hb : b = erasedByte
      · rw [if_pos hb]
        split
        · rename_i hx
          subst hx hb
          refine Memory.read_of_lt fun d hd => ?_
          rcases List.mem_cons.1 hd with rfl | hd
          · exact hlt
          · exact hlt.trans (hk d hd)
        · rfl
      · rw [if_neg hb, Memory.read]
    · split
      · rename_i hak
        subst hak
        by_cases hb : b = erasedByte
        · rw [if_pos hb]
          split
          · rename_i hx
            subst hx hb
            exact Memory.read_of_lt hk
          · rename_i hx
            rw [Memory.read, if_neg hx]
        · rw [if_neg hb, Memory.read, Memory.read]
          split
          · rfl
          · rfl
      · rename_i hlt hne
        rw [Memory.read, Memory.read, ih hr]
        split
        · rename_i hx
          rw [if_neg (by omega)]
        · rfl

/-- A run that was written is read back; every address outside it reads as before. -/
theorem Memory.read_writeRun {m : Memory} (h : Memory.wf m) (a : Nat) (data : List Byte) (x : Nat) :
    (m.writeRun a data).read x = if a ≤ x ∧ x < a + data.length then data.getD (x - a) 0 else m.read x := by
  induction data generalizing m a with
  | nil => simp [Memory.writeRun]
  | cons b bs ih =>
    rw [Memory.writeRun, ih (Memory.wf_write h a b), Memory.read_write h]
    simp only [List.length_cons]
    by_cases hx : x = a
    · subst hx
      simp
    · by_cases hi : a ≤ x ∧ x < a + (bs.length + 1)
      · rw [if_pos (by omega), if_pos hi, show x - a = (x - (a + 1)) + 1 by omega, List.getD_cons_succ]
      · rw [if_neg (by omega), if_neg hi, if_neg hx]

/-- A run of writes is an overwrite. -/
theorem Memory.overwrites_writeRun {m : Memory} (h : Memory.wf m) (a : Nat) (data : List Byte) :
    Overwrites m (m.writeRun a data) a data :=
  ⟨Memory.wf_writeRun h a data, Memory.read_writeRun h a data⟩

@[simp] theorem Memory.readRun_length (m : Memory) (a n : Nat) : (m.readRun a n).length = n := by simp [Memory.readRun]

/-- An interrupted write leaves at each address the old byte, the new byte or FFh (R185). -/
theorem Memory.tears_tear {m : Memory} (h : Memory.wf m) (n base : Nat) (new : List Byte) :
    Tears m (m.tear n base new) base new := by
  refine ⟨Memory.wf_tear h n base new, fun a => ?_⟩
  have len : (tornRun m n base new).length = new.length := by simp [tornRun]
  rw [Memory.tear, Memory.read_writeRun h, len]
  split
  · rename_i hi
    have ha : a - base < new.length := by omega
    have e : base + (a - base) = a := by omega
    simp only [tornRun, MayTear, List.getD_eq_getElem?_getD, List.getElem?_mapIdx, List.getElem?_eq_getElem ha,
      Option.map_some, Option.getD_some, e, tornByte, erasedByte]
    split
    · exact .inl rfl
    · split
      · exact .inr (.inl rfl)
      · exact .inr (.inr rfl)
  · rfl

end Sys2Proof.Machine
end

