-- ==== Sys2Proof/Laws/State.lean ====
section
/-! SUPPORT. What each block update leaves in each block, so that no proof unfolds an update. -/

namespace Sys2Proof.Machine

/-! ## setPort -/

@[simp] theorem State.setPort_port (s : State) (x : Port) : (s.setPort x).port = x := rfl
@[simp] theorem State.setPort_time (s : State) (x : Port) : (s.setPort x).time = s.time := rfl
@[simp] theorem State.setPort_chans (s : State) (x : Port) : (s.setPort x).chans = s.chans := rfl
@[simp] theorem State.setPort_cues (s : State) (x : Port) : (s.setPort x).cues = s.cues := rfl
@[simp] theorem State.setPort_edges (s : State) (x : Port) : (s.setPort x).edges = s.edges := rfl
@[simp] theorem State.setPort_notes (s : State) (x : Port) : (s.setPort x).notes = s.notes := rfl
@[simp] theorem State.setPort_ward (s : State) (x : Port) : (s.setPort x).ward = s.ward := rfl
@[simp] theorem State.setPort_stand (s : State) (x : Port) : (s.setPort x).stand = s.stand := rfl
@[simp] theorem State.setPort_store (s : State) (x : Port) : (s.setPort x).store = s.store := rfl
@[simp] theorem State.setPort_sys (s : State) (x : Port) : (s.setPort x).sys = s.sys := rfl
@[simp] theorem State.setPort_pins (s : State) (x : Port) : (s.setPort x).pins = s.pins := rfl
@[simp] theorem State.setPort_free (s : State) (x : Port) : (s.setPort x).free = s.free := rfl
@[simp] theorem State.setPort_pending (s : State) (x : Port) : (s.setPort x).pending = s.pending := rfl
@[simp] theorem State.setPort_setPort (s : State) (x y : Port) : (s.setPort x).setPort y = s.setPort y := rfl
@[simp] theorem State.setPort_self (s : State) : s.setPort s.port = s := rfl

/-! ## setTime -/

@[simp] theorem State.setTime_port (s : State) (x : Timebase) : (s.setTime x).port = s.port := rfl
@[simp] theorem State.setTime_time (s : State) (x : Timebase) : (s.setTime x).time = x := rfl
@[simp] theorem State.setTime_chans (s : State) (x : Timebase) : (s.setTime x).chans = s.chans := rfl
@[simp] theorem State.setTime_cues (s : State) (x : Timebase) : (s.setTime x).cues = s.cues := rfl
@[simp] theorem State.setTime_edges (s : State) (x : Timebase) : (s.setTime x).edges = s.edges := rfl
@[simp] theorem State.setTime_notes (s : State) (x : Timebase) : (s.setTime x).notes = s.notes := rfl
@[simp] theorem State.setTime_ward (s : State) (x : Timebase) : (s.setTime x).ward = s.ward := rfl
@[simp] theorem State.setTime_stand (s : State) (x : Timebase) : (s.setTime x).stand = s.stand := rfl
@[simp] theorem State.setTime_store (s : State) (x : Timebase) : (s.setTime x).store = s.store := rfl
@[simp] theorem State.setTime_sys (s : State) (x : Timebase) : (s.setTime x).sys = s.sys := rfl
@[simp] theorem State.setTime_pins (s : State) (x : Timebase) : (s.setTime x).pins = s.pins := rfl
@[simp] theorem State.setTime_free (s : State) (x : Timebase) : (s.setTime x).free = s.free := rfl
@[simp] theorem State.setTime_pending (s : State) (x : Timebase) : (s.setTime x).pending = s.pending := rfl
@[simp] theorem State.setTime_setTime (s : State) (x y : Timebase) : (s.setTime x).setTime y = s.setTime y := rfl
@[simp] theorem State.setTime_self (s : State) : s.setTime s.time = s := rfl

/-! ## setChans -/

@[simp] theorem State.setChans_port (s : State) (x : Vector Channel 16) : (s.setChans x).port = s.port := rfl
@[simp] theorem State.setChans_time (s : State) (x : Vector Channel 16) : (s.setChans x).time = s.time := rfl
@[simp] theorem State.setChans_chans (s : State) (x : Vector Channel 16) : (s.setChans x).chans = x := rfl
@[simp] theorem State.setChans_cues (s : State) (x : Vector Channel 16) : (s.setChans x).cues = s.cues := rfl
@[simp] theorem State.setChans_edges (s : State) (x : Vector Channel 16) : (s.setChans x).edges = s.edges := rfl
@[simp] theorem State.setChans_notes (s : State) (x : Vector Channel 16) : (s.setChans x).notes = s.notes := rfl
@[simp] theorem State.setChans_ward (s : State) (x : Vector Channel 16) : (s.setChans x).ward = s.ward := rfl
@[simp] theorem State.setChans_stand (s : State) (x : Vector Channel 16) : (s.setChans x).stand = s.stand := rfl
@[simp] theorem State.setChans_store (s : State) (x : Vector Channel 16) : (s.setChans x).store = s.store := rfl
@[simp] theorem State.setChans_sys (s : State) (x : Vector Channel 16) : (s.setChans x).sys = s.sys := rfl
@[simp] theorem State.setChans_pins (s : State) (x : Vector Channel 16) : (s.setChans x).pins = s.pins := rfl
@[simp] theorem State.setChans_free (s : State) (x : Vector Channel 16) : (s.setChans x).free = s.free := rfl
@[simp] theorem State.setChans_pending (s : State) (x : Vector Channel 16) : (s.setChans x).pending = s.pending := rfl
@[simp] theorem State.setChans_setChans (s : State) (x y : Vector Channel 16) : (s.setChans x).setChans y = s.setChans y := rfl
@[simp] theorem State.setChans_self (s : State) : s.setChans s.chans = s := rfl

/-! ## setCues -/

@[simp] theorem State.setCues_port (s : State) (x : CueTable) : (s.setCues x).port = s.port := rfl
@[simp] theorem State.setCues_time (s : State) (x : CueTable) : (s.setCues x).time = s.time := rfl
@[simp] theorem State.setCues_chans (s : State) (x : CueTable) : (s.setCues x).chans = s.chans := rfl
@[simp] theorem State.setCues_cues (s : State) (x : CueTable) : (s.setCues x).cues = x := rfl
@[simp] theorem State.setCues_edges (s : State) (x : CueTable) : (s.setCues x).edges = s.edges := rfl
@[simp] theorem State.setCues_notes (s : State) (x : CueTable) : (s.setCues x).notes = s.notes := rfl
@[simp] theorem State.setCues_ward (s : State) (x : CueTable) : (s.setCues x).ward = s.ward := rfl
@[simp] theorem State.setCues_stand (s : State) (x : CueTable) : (s.setCues x).stand = s.stand := rfl
@[simp] theorem State.setCues_store (s : State) (x : CueTable) : (s.setCues x).store = s.store := rfl
@[simp] theorem State.setCues_sys (s : State) (x : CueTable) : (s.setCues x).sys = s.sys := rfl
@[simp] theorem State.setCues_pins (s : State) (x : CueTable) : (s.setCues x).pins = s.pins := rfl
@[simp] theorem State.setCues_free (s : State) (x : CueTable) : (s.setCues x).free = s.free := rfl
@[simp] theorem State.setCues_pending (s : State) (x : CueTable) : (s.setCues x).pending = s.pending := rfl
@[simp] theorem State.setCues_setCues (s : State) (x y : CueTable) : (s.setCues x).setCues y = s.setCues y := rfl
@[simp] theorem State.setCues_self (s : State) : s.setCues s.cues = s := rfl

/-! ## setEdges -/

@[simp] theorem State.setEdges_port (s : State) (x : EdgeUnit) : (s.setEdges x).port = s.port := rfl
@[simp] theorem State.setEdges_time (s : State) (x : EdgeUnit) : (s.setEdges x).time = s.time := rfl
@[simp] theorem State.setEdges_chans (s : State) (x : EdgeUnit) : (s.setEdges x).chans = s.chans := rfl
@[simp] theorem State.setEdges_cues (s : State) (x : EdgeUnit) : (s.setEdges x).cues = s.cues := rfl
@[simp] theorem State.setEdges_edges (s : State) (x : EdgeUnit) : (s.setEdges x).edges = x := rfl
@[simp] theorem State.setEdges_notes (s : State) (x : EdgeUnit) : (s.setEdges x).notes = s.notes := rfl
@[simp] theorem State.setEdges_ward (s : State) (x : EdgeUnit) : (s.setEdges x).ward = s.ward := rfl
@[simp] theorem State.setEdges_stand (s : State) (x : EdgeUnit) : (s.setEdges x).stand = s.stand := rfl
@[simp] theorem State.setEdges_store (s : State) (x : EdgeUnit) : (s.setEdges x).store = s.store := rfl
@[simp] theorem State.setEdges_sys (s : State) (x : EdgeUnit) : (s.setEdges x).sys = s.sys := rfl
@[simp] theorem State.setEdges_pins (s : State) (x : EdgeUnit) : (s.setEdges x).pins = s.pins := rfl
@[simp] theorem State.setEdges_free (s : State) (x : EdgeUnit) : (s.setEdges x).free = s.free := rfl
@[simp] theorem State.setEdges_pending (s : State) (x : EdgeUnit) : (s.setEdges x).pending = s.pending := rfl
@[simp] theorem State.setEdges_setEdges (s : State) (x y : EdgeUnit) : (s.setEdges x).setEdges y = s.setEdges y := rfl
@[simp] theorem State.setEdges_self (s : State) : s.setEdges s.edges = s := rfl

/-! ## setNotes -/

@[simp] theorem State.setNotes_port (s : State) (x : NoticeUnit) : (s.setNotes x).port = s.port := rfl
@[simp] theorem State.setNotes_time (s : State) (x : NoticeUnit) : (s.setNotes x).time = s.time := rfl
@[simp] theorem State.setNotes_chans (s : State) (x : NoticeUnit) : (s.setNotes x).chans = s.chans := rfl
@[simp] theorem State.setNotes_cues (s : State) (x : NoticeUnit) : (s.setNotes x).cues = s.cues := rfl
@[simp] theorem State.setNotes_edges (s : State) (x : NoticeUnit) : (s.setNotes x).edges = s.edges := rfl
@[simp] theorem State.setNotes_notes (s : State) (x : NoticeUnit) : (s.setNotes x).notes = x := rfl
@[simp] theorem State.setNotes_ward (s : State) (x : NoticeUnit) : (s.setNotes x).ward = s.ward := rfl
@[simp] theorem State.setNotes_stand (s : State) (x : NoticeUnit) : (s.setNotes x).stand = s.stand := rfl
@[simp] theorem State.setNotes_store (s : State) (x : NoticeUnit) : (s.setNotes x).store = s.store := rfl
@[simp] theorem State.setNotes_sys (s : State) (x : NoticeUnit) : (s.setNotes x).sys = s.sys := rfl
@[simp] theorem State.setNotes_pins (s : State) (x : NoticeUnit) : (s.setNotes x).pins = s.pins := rfl
@[simp] theorem State.setNotes_free (s : State) (x : NoticeUnit) : (s.setNotes x).free = s.free := rfl
@[simp] theorem State.setNotes_pending (s : State) (x : NoticeUnit) : (s.setNotes x).pending = s.pending := rfl
@[simp] theorem State.setNotes_setNotes (s : State) (x y : NoticeUnit) : (s.setNotes x).setNotes y = s.setNotes y := rfl
@[simp] theorem State.setNotes_self (s : State) : s.setNotes s.notes = s := rfl

/-! ## setWard -/

@[simp] theorem State.setWard_port (s : State) (x : Warden) : (s.setWard x).port = s.port := rfl
@[simp] theorem State.setWard_time (s : State) (x : Warden) : (s.setWard x).time = s.time := rfl
@[simp] theorem State.setWard_chans (s : State) (x : Warden) : (s.setWard x).chans = s.chans := rfl
@[simp] theorem State.setWard_cues (s : State) (x : Warden) : (s.setWard x).cues = s.cues := rfl
@[simp] theorem State.setWard_edges (s : State) (x : Warden) : (s.setWard x).edges = s.edges := rfl
@[simp] theorem State.setWard_notes (s : State) (x : Warden) : (s.setWard x).notes = s.notes := rfl
@[simp] theorem State.setWard_ward (s : State) (x : Warden) : (s.setWard x).ward = x := rfl
@[simp] theorem State.setWard_stand (s : State) (x : Warden) : (s.setWard x).stand = s.stand := rfl
@[simp] theorem State.setWard_store (s : State) (x : Warden) : (s.setWard x).store = s.store := rfl
@[simp] theorem State.setWard_sys (s : State) (x : Warden) : (s.setWard x).sys = s.sys := rfl
@[simp] theorem State.setWard_pins (s : State) (x : Warden) : (s.setWard x).pins = s.pins := rfl
@[simp] theorem State.setWard_free (s : State) (x : Warden) : (s.setWard x).free = s.free := rfl
@[simp] theorem State.setWard_pending (s : State) (x : Warden) : (s.setWard x).pending = s.pending := rfl
@[simp] theorem State.setWard_setWard (s : State) (x y : Warden) : (s.setWard x).setWard y = s.setWard y := rfl
@[simp] theorem State.setWard_self (s : State) : s.setWard s.ward = s := rfl

/-! ## setStand -/

@[simp] theorem State.setStand_port (s : State) (x : StandIn) : (s.setStand x).port = s.port := rfl
@[simp] theorem State.setStand_time (s : State) (x : StandIn) : (s.setStand x).time = s.time := rfl
@[simp] theorem State.setStand_chans (s : State) (x : StandIn) : (s.setStand x).chans = s.chans := rfl
@[simp] theorem State.setStand_cues (s : State) (x : StandIn) : (s.setStand x).cues = s.cues := rfl
@[simp] theorem State.setStand_edges (s : State) (x : StandIn) : (s.setStand x).edges = s.edges := rfl
@[simp] theorem State.setStand_notes (s : State) (x : StandIn) : (s.setStand x).notes = s.notes := rfl
@[simp] theorem State.setStand_ward (s : State) (x : StandIn) : (s.setStand x).ward = s.ward := rfl
@[simp] theorem State.setStand_stand (s : State) (x : StandIn) : (s.setStand x).stand = x := rfl
@[simp] theorem State.setStand_store (s : State) (x : StandIn) : (s.setStand x).store = s.store := rfl
@[simp] theorem State.setStand_sys (s : State) (x : StandIn) : (s.setStand x).sys = s.sys := rfl
@[simp] theorem State.setStand_pins (s : State) (x : StandIn) : (s.setStand x).pins = s.pins := rfl
@[simp] theorem State.setStand_free (s : State) (x : StandIn) : (s.setStand x).free = s.free := rfl
@[simp] theorem State.setStand_pending (s : State) (x : StandIn) : (s.setStand x).pending = s.pending := rfl
@[simp] theorem State.setStand_setStand (s : State) (x y : StandIn) : (s.setStand x).setStand y = s.setStand y := rfl
@[simp] theorem State.setStand_self (s : State) : s.setStand s.stand = s := rfl

/-! ## setStore -/

@[simp] theorem State.setStore_port (s : State) (x : Store) : (s.setStore x).port = s.port := rfl
@[simp] theorem State.setStore_time (s : State) (x : Store) : (s.setStore x).time = s.time := rfl
@[simp] theorem State.setStore_chans (s : State) (x : Store) : (s.setStore x).chans = s.chans := rfl
@[simp] theorem State.setStore_cues (s : State) (x : Store) : (s.setStore x).cues = s.cues := rfl
@[simp] theorem State.setStore_edges (s : State) (x : Store) : (s.setStore x).edges = s.edges := rfl
@[simp] theorem State.setStore_notes (s : State) (x : Store) : (s.setStore x).notes = s.notes := rfl
@[simp] theorem State.setStore_ward (s : State) (x : Store) : (s.setStore x).ward = s.ward := rfl
@[simp] theorem State.setStore_stand (s : State) (x : Store) : (s.setStore x).stand = s.stand := rfl
@[simp] theorem State.setStore_store (s : State) (x : Store) : (s.setStore x).store = x := rfl
@[simp] theorem State.setStore_sys (s : State) (x : Store) : (s.setStore x).sys = s.sys := rfl
@[simp] theorem State.setStore_pins (s : State) (x : Store) : (s.setStore x).pins = s.pins := rfl
@[simp] theorem State.setStore_free (s : State) (x : Store) : (s.setStore x).free = s.free := rfl
@[simp] theorem State.setStore_pending (s : State) (x : Store) : (s.setStore x).pending = s.pending := rfl
@[simp] theorem State.setStore_setStore (s : State) (x y : Store) : (s.setStore x).setStore y = s.setStore y := rfl
@[simp] theorem State.setStore_self (s : State) : s.setStore s.store = s := rfl

/-! ## setSys -/

@[simp] theorem State.setSys_port (s : State) (x : SysCtl) : (s.setSys x).port = s.port := rfl
@[simp] theorem State.setSys_time (s : State) (x : SysCtl) : (s.setSys x).time = s.time := rfl
@[simp] theorem State.setSys_chans (s : State) (x : SysCtl) : (s.setSys x).chans = s.chans := rfl
@[simp] theorem State.setSys_cues (s : State) (x : SysCtl) : (s.setSys x).cues = s.cues := rfl
@[simp] theorem State.setSys_edges (s : State) (x : SysCtl) : (s.setSys x).edges = s.edges := rfl
@[simp] theorem State.setSys_notes (s : State) (x : SysCtl) : (s.setSys x).notes = s.notes := rfl
@[simp] theorem State.setSys_ward (s : State) (x : SysCtl) : (s.setSys x).ward = s.ward := rfl
@[simp] theorem State.setSys_stand (s : State) (x : SysCtl) : (s.setSys x).stand = s.stand := rfl
@[simp] theorem State.setSys_store (s : State) (x : SysCtl) : (s.setSys x).store = s.store := rfl
@[simp] theorem State.setSys_sys (s : State) (x : SysCtl) : (s.setSys x).sys = x := rfl
@[simp] theorem State.setSys_pins (s : State) (x : SysCtl) : (s.setSys x).pins = s.pins := rfl
@[simp] theorem State.setSys_free (s : State) (x : SysCtl) : (s.setSys x).free = s.free := rfl
@[simp] theorem State.setSys_pending (s : State) (x : SysCtl) : (s.setSys x).pending = s.pending := rfl
@[simp] theorem State.setSys_setSys (s : State) (x y : SysCtl) : (s.setSys x).setSys y = s.setSys y := rfl
@[simp] theorem State.setSys_self (s : State) : s.setSys s.sys = s := rfl

/-! ## setPins -/

@[simp] theorem State.setPins_port (s : State) (x : Pins) : (s.setPins x).port = s.port := rfl
@[simp] theorem State.setPins_time (s : State) (x : Pins) : (s.setPins x).time = s.time := rfl
@[simp] theorem State.setPins_chans (s : State) (x : Pins) : (s.setPins x).chans = s.chans := rfl
@[simp] theorem State.setPins_cues (s : State) (x : Pins) : (s.setPins x).cues = s.cues := rfl
@[simp] theorem State.setPins_edges (s : State) (x : Pins) : (s.setPins x).edges = s.edges := rfl
@[simp] theorem State.setPins_notes (s : State) (x : Pins) : (s.setPins x).notes = s.notes := rfl
@[simp] theorem State.setPins_ward (s : State) (x : Pins) : (s.setPins x).ward = s.ward := rfl
@[simp] theorem State.setPins_stand (s : State) (x : Pins) : (s.setPins x).stand = s.stand := rfl
@[simp] theorem State.setPins_store (s : State) (x : Pins) : (s.setPins x).store = s.store := rfl
@[simp] theorem State.setPins_sys (s : State) (x : Pins) : (s.setPins x).sys = s.sys := rfl
@[simp] theorem State.setPins_pins (s : State) (x : Pins) : (s.setPins x).pins = x := rfl
@[simp] theorem State.setPins_free (s : State) (x : Pins) : (s.setPins x).free = s.free := rfl
@[simp] theorem State.setPins_pending (s : State) (x : Pins) : (s.setPins x).pending = s.pending := rfl
@[simp] theorem State.setPins_setPins (s : State) (x y : Pins) : (s.setPins x).setPins y = s.setPins y := rfl
@[simp] theorem State.setPins_self (s : State) : s.setPins s.pins = s := rfl

/-! ## setPending -/

@[simp] theorem State.setPending_port (s : State) (x : List Instr) : (s.setPending x).port = s.port := rfl
@[simp] theorem State.setPending_time (s : State) (x : List Instr) : (s.setPending x).time = s.time := rfl
@[simp] theorem State.setPending_chans (s : State) (x : List Instr) : (s.setPending x).chans = s.chans := rfl
@[simp] theorem State.setPending_cues (s : State) (x : List Instr) : (s.setPending x).cues = s.cues := rfl
@[simp] theorem State.setPending_edges (s : State) (x : List Instr) : (s.setPending x).edges = s.edges := rfl
@[simp] theorem State.setPending_notes (s : State) (x : List Instr) : (s.setPending x).notes = s.notes := rfl
@[simp] theorem State.setPending_ward (s : State) (x : List Instr) : (s.setPending x).ward = s.ward := rfl
@[simp] theorem State.setPending_stand (s : State) (x : List Instr) : (s.setPending x).stand = s.stand := rfl
@[simp] theorem State.setPending_store (s : State) (x : List Instr) : (s.setPending x).store = s.store := rfl
@[simp] theorem State.setPending_sys (s : State) (x : List Instr) : (s.setPending x).sys = s.sys := rfl
@[simp] theorem State.setPending_pins (s : State) (x : List Instr) : (s.setPending x).pins = s.pins := rfl
@[simp] theorem State.setPending_free (s : State) (x : List Instr) : (s.setPending x).free = s.free := rfl
@[simp] theorem State.setPending_pending (s : State) (x : List Instr) : (s.setPending x).pending = x := rfl
@[simp] theorem State.setPending_setPending (s : State) (x y : List Instr) : (s.setPending x).setPending y = s.setPending y := rfl
@[simp] theorem State.setPending_self (s : State) : s.setPending s.pending = s := rfl

/-! ## useFree -/

@[simp] theorem State.useFree_port (s : State) : s.useFree.port = s.port := rfl
@[simp] theorem State.useFree_time (s : State) : s.useFree.time = s.time := rfl
@[simp] theorem State.useFree_chans (s : State) : s.useFree.chans = s.chans := rfl
@[simp] theorem State.useFree_cues (s : State) : s.useFree.cues = s.cues := rfl
@[simp] theorem State.useFree_edges (s : State) : s.useFree.edges = s.edges := rfl
@[simp] theorem State.useFree_notes (s : State) : s.useFree.notes = s.notes := rfl
@[simp] theorem State.useFree_ward (s : State) : s.useFree.ward = s.ward := rfl
@[simp] theorem State.useFree_stand (s : State) : s.useFree.stand = s.stand := rfl
@[simp] theorem State.useFree_store (s : State) : s.useFree.store = s.store := rfl
@[simp] theorem State.useFree_sys (s : State) : s.useFree.sys = s.sys := rfl
@[simp] theorem State.useFree_pins (s : State) : s.useFree.pins = s.pins := rfl
@[simp] theorem State.useFree_free (s : State) : s.useFree.free = s.free + 1 := rfl
@[simp] theorem State.useFree_pending (s : State) : s.useFree.pending = s.pending := rfl

/-! ## Cues by slot -/

@[simp] theorem State.setCue_cueAt_same (s : State) (n : Fin 48) (c : Cue) : (s.setCue n c).cueAt n = some c := by
  simp [State.setCue, State.cueAt]

theorem State.setCue_cueAt_other (s : State) (n m : Fin 48) (c : Cue) (h : n ≠ m) :
    (s.setCue n c).cueAt m = s.cueAt m := by
  have h' : n.val ≠ m.val := fun e => h (Fin.ext e)
  simp [State.setCue, State.cueAt, h']

@[simp] theorem State.setCue_gen (s : State) (n m : Fin 48) (c : Cue) :
    (s.setCue n c).cues.slots[m].gen = s.cues.slots[m].gen := by
  by_cases h : n.val = m.val
  · have e : n = m := Fin.ext h
    subst e
    simp [State.setCue]
  · simp [State.setCue, h]

@[simp] theorem State.setCue_setCue (s : State) (n : Fin 48) (c d : Cue) : (s.setCue n c).setCue n d = s.setCue n d := by
  simp [State.setCue, State.setCues]

end Sys2Proof.Machine
end

