-- ==== Sys2Proof/Laws/Ops.lean ====
section
/-! SUPPORT. What the shared operations leave alone, and what they do: raising a notice (R128), the journal queue (R178, R189), cuts
(R48, R99), placement in the due list and freeing (R58, R69). -/

namespace Sys2Proof.Machine

/-- A fold of operations that each keep a part of the state keeps it. -/
theorem foldl_keeps {α β : Type} {f : State → α → State} {g : State → β} (h : ∀ s a, g (f s a) = g s) (l : List α)
    (s : State) : g (l.foldl f s) = g s := by
  induction l generalizing s with
  | nil => rfl
  | cons a l ih => rw [List.foldl_cons, ih, h]

/-! ## Raising a notice -/

@[simp] theorem raise_port (c : NoticeClass) (h t d : Half) (s : State) : (raise c h t d s).port = s.port := rfl
@[simp] theorem raise_time (c : NoticeClass) (h t d : Half) (s : State) : (raise c h t d s).time = s.time := rfl
@[simp] theorem raise_chans (c : NoticeClass) (h t d : Half) (s : State) : (raise c h t d s).chans = s.chans := rfl
@[simp] theorem raise_cues (c : NoticeClass) (h t d : Half) (s : State) : (raise c h t d s).cues = s.cues := rfl
@[simp] theorem raise_edges (c : NoticeClass) (h t d : Half) (s : State) : (raise c h t d s).edges = s.edges := rfl
@[simp] theorem raise_ward (c : NoticeClass) (h t d : Half) (s : State) : (raise c h t d s).ward = s.ward := rfl
@[simp] theorem raise_stand (c : NoticeClass) (h t d : Half) (s : State) : (raise c h t d s).stand = s.stand := rfl
@[simp] theorem raise_store (c : NoticeClass) (h t d : Half) (s : State) : (raise c h t d s).store = s.store := rfl
@[simp] theorem raise_sys (c : NoticeClass) (h t d : Half) (s : State) : (raise c h t d s).sys = s.sys := rfl
@[simp] theorem raise_pins (c : NoticeClass) (h t d : Half) (s : State) : (raise c h t d s).pins = s.pins := rfl
@[simp] theorem raise_free (c : NoticeClass) (h t d : Half) (s : State) : (raise c h t d s).free = s.free := rfl
@[simp] theorem raise_pending (c : NoticeClass) (h t d : Half) (s : State) : (raise c h t d s).pending = s.pending := rfl

/-- Raising changes nothing of the notice unit but the raised notices. -/
theorem raise_notes (c : NoticeClass) (h t d : Half) (s : State) :
    (raise c h t d s).notes = { s.notes with
      raised := s.notes.raised ++ [{ cls := c, handle := h, tag := t, stamp := s.time.tick, detail := d }] } := rfl

/-! ## The journal queue -/

@[simp] theorem startAppend_port (s : State) : (startAppend s).port = s.port := by
  simp only [startAppend]; split <;> rfl
@[simp] theorem startAppend_time (s : State) : (startAppend s).time = s.time := by
  simp only [startAppend]; split <;> rfl
@[simp] theorem startAppend_chans (s : State) : (startAppend s).chans = s.chans := by
  simp only [startAppend]; split <;> rfl
@[simp] theorem startAppend_cues (s : State) : (startAppend s).cues = s.cues := by
  simp only [startAppend]; split <;> rfl
@[simp] theorem startAppend_edges (s : State) : (startAppend s).edges = s.edges := by
  simp only [startAppend]; split <;> rfl
@[simp] theorem startAppend_notes (s : State) : (startAppend s).notes = s.notes := by
  simp only [startAppend]; split <;> rfl
@[simp] theorem startAppend_ward (s : State) : (startAppend s).ward = s.ward := by
  simp only [startAppend]; split <;> rfl
@[simp] theorem startAppend_stand (s : State) : (startAppend s).stand = s.stand := by
  simp only [startAppend]; split <;> rfl
@[simp] theorem startAppend_sys (s : State) : (startAppend s).sys = s.sys := by
  simp only [startAppend]; split <;> rfl
@[simp] theorem startAppend_pins (s : State) : (startAppend s).pins = s.pins := by
  simp only [startAppend]; split <;> rfl
@[simp] theorem startAppend_free (s : State) : (startAppend s).free = s.free := by
  simp only [startAppend]; split <;> rfl
@[simp] theorem startAppend_pending (s : State) : (startAppend s).pending = s.pending := by
  simp only [startAppend]; split <;> rfl

@[simp] theorem takeUpJournal_port (s : State) : (takeUpJournal s).port = s.port := by
  simp only [takeUpJournal]; split <;> simp
@[simp] theorem takeUpJournal_time (s : State) : (takeUpJournal s).time = s.time := by
  simp only [takeUpJournal]; split <;> simp
@[simp] theorem takeUpJournal_chans (s : State) : (takeUpJournal s).chans = s.chans := by
  simp only [takeUpJournal]; split <;> simp
@[simp] theorem takeUpJournal_cues (s : State) : (takeUpJournal s).cues = s.cues := by
  simp only [takeUpJournal]; split <;> simp
@[simp] theorem takeUpJournal_edges (s : State) : (takeUpJournal s).edges = s.edges := by
  simp only [takeUpJournal]; split <;> simp
@[simp] theorem takeUpJournal_notes (s : State) : (takeUpJournal s).notes = s.notes := by
  simp only [takeUpJournal]; split <;> simp
@[simp] theorem takeUpJournal_ward (s : State) : (takeUpJournal s).ward = s.ward := by
  simp only [takeUpJournal]; split <;> simp
@[simp] theorem takeUpJournal_stand (s : State) : (takeUpJournal s).stand = s.stand := by
  simp only [takeUpJournal]; split <;> simp
@[simp] theorem takeUpJournal_sys (s : State) : (takeUpJournal s).sys = s.sys := by
  simp only [takeUpJournal]; split <;> simp
@[simp] theorem takeUpJournal_pins (s : State) : (takeUpJournal s).pins = s.pins := by
  simp only [takeUpJournal]; split <;> simp
@[simp] theorem takeUpJournal_free (s : State) : (takeUpJournal s).free = s.free := by
  simp only [takeUpJournal]; split <;> simp
@[simp] theorem takeUpJournal_pending (s : State) : (takeUpJournal s).pending = s.pending := by
  simp only [takeUpJournal]; split <;> simp

@[simp] theorem queueJournal_port (k : JournalKind) (d : Byte) (s : State) : (queueJournal k d s).port = s.port := by
  simp only [queueJournal]; split <;> simp
@[simp] theorem queueJournal_time (k : JournalKind) (d : Byte) (s : State) : (queueJournal k d s).time = s.time := by
  simp only [queueJournal]; split <;> simp
@[simp] theorem queueJournal_chans (k : JournalKind) (d : Byte) (s : State) : (queueJournal k d s).chans = s.chans := by
  simp only [queueJournal]; split <;> simp
@[simp] theorem queueJournal_cues (k : JournalKind) (d : Byte) (s : State) : (queueJournal k d s).cues = s.cues := by
  simp only [queueJournal]; split <;> simp
@[simp] theorem queueJournal_edges (k : JournalKind) (d : Byte) (s : State) : (queueJournal k d s).edges = s.edges := by
  simp only [queueJournal]; split <;> simp
@[simp] theorem queueJournal_ward (k : JournalKind) (d : Byte) (s : State) : (queueJournal k d s).ward = s.ward := by
  simp only [queueJournal]; split <;> simp
@[simp] theorem queueJournal_stand (k : JournalKind) (d : Byte) (s : State) : (queueJournal k d s).stand = s.stand := by
  simp only [queueJournal]; split <;> simp
@[simp] theorem queueJournal_sys (k : JournalKind) (d : Byte) (s : State) : (queueJournal k d s).sys = s.sys := by
  simp only [queueJournal]; split <;> simp
@[simp] theorem queueJournal_pins (k : JournalKind) (d : Byte) (s : State) : (queueJournal k d s).pins = s.pins := by
  simp only [queueJournal]; split <;> simp
@[simp] theorem queueJournal_free (k : JournalKind) (d : Byte) (s : State) : (queueJournal k d s).free = s.free := by
  simp only [queueJournal]; split <;> simp
@[simp] theorem queueJournal_pending (k : JournalKind) (d : Byte) (s : State) : (queueJournal k d s).pending = s.pending := by
  simp only [queueJournal]; split <;> simp

/-- What taking up the queue leaves of the store. -/
theorem takeUpJournal_kept (s : State) :
    (takeUpJournal s).store.pages = s.store.pages ∧ (takeUpJournal s).store.buffer = s.store.buffer ∧
    (takeUpJournal s).store.lockConfig = s.store.lockConfig ∧ (takeUpJournal s).store.lockStandin = s.store.lockStandin ∧
    (takeUpJournal s).store.lockUser = s.store.lockUser ∧ (takeUpJournal s).store.journalLost = s.store.journalLost := by
  simp only [takeUpJournal, startAppend]
  split
  · split <;> simp
  · simp

/-- What queueing a record leaves of the store, and of the lanes. -/
theorem queueJournal_kept (k : JournalKind) (d : Byte) (s : State) :
    (queueJournal k d s).store.pages = s.store.pages ∧ (queueJournal k d s).store.buffer = s.store.buffer ∧
    (queueJournal k d s).store.lockConfig = s.store.lockConfig ∧
    (queueJournal k d s).store.lockStandin = s.store.lockStandin ∧ (queueJournal k d s).store.lockUser = s.store.lockUser ∧
    (queueJournal k d s).notes.urgent = s.notes.urgent ∧ (queueJournal k d s).notes.routine = s.notes.routine := by
  simp only [queueJournal]
  split
  · refine ⟨(takeUpJournal_kept _).1, (takeUpJournal_kept _).2.1, (takeUpJournal_kept _).2.2.1, (takeUpJournal_kept _).2.2.2.1,
      (takeUpJournal_kept _).2.2.2.2.1, ?_, ?_⟩ <;> simp
  · exact ⟨rfl, rfl, rfl, rfl, rfl, rfl, rfl⟩

/-! ## Cuts -/

@[simp] theorem cutSlot_port (m : Half) (w : Option (Fin 48)) (s : State) (n : Fin 48) : (cutSlot m w s n).port = s.port := by
  simp only [cutSlot]; repeat' split
  all_goals rfl
@[simp] theorem cutSlot_time (m : Half) (w : Option (Fin 48)) (s : State) (n : Fin 48) : (cutSlot m w s n).time = s.time := by
  simp only [cutSlot]; repeat' split
  all_goals rfl
@[simp] theorem cutSlot_chans (m : Half) (w : Option (Fin 48)) (s : State) (n : Fin 48) : (cutSlot m w s n).chans = s.chans := by
  simp only [cutSlot]; repeat' split
  all_goals rfl
@[simp] theorem cutSlot_edges (m : Half) (w : Option (Fin 48)) (s : State) (n : Fin 48) : (cutSlot m w s n).edges = s.edges := by
  simp only [cutSlot]; repeat' split
  all_goals rfl
@[simp] theorem cutSlot_ward (m : Half) (w : Option (Fin 48)) (s : State) (n : Fin 48) : (cutSlot m w s n).ward = s.ward := by
  simp only [cutSlot]; repeat' split
  all_goals rfl
@[simp] theorem cutSlot_stand (m : Half) (w : Option (Fin 48)) (s : State) (n : Fin 48) : (cutSlot m w s n).stand = s.stand := by
  simp only [cutSlot]; repeat' split
  all_goals rfl
@[simp] theorem cutSlot_store (m : Half) (w : Option (Fin 48)) (s : State) (n : Fin 48) : (cutSlot m w s n).store = s.store := by
  simp only [cutSlot]; repeat' split
  all_goals rfl
@[simp] theorem cutSlot_sys (m : Half) (w : Option (Fin 48)) (s : State) (n : Fin 48) : (cutSlot m w s n).sys = s.sys := by
  simp only [cutSlot]; repeat' split
  all_goals rfl
@[simp] theorem cutSlot_pins (m : Half) (w : Option (Fin 48)) (s : State) (n : Fin 48) : (cutSlot m w s n).pins = s.pins := by
  simp only [cutSlot]; repeat' split
  all_goals rfl
@[simp] theorem cutSlot_free (m : Half) (w : Option (Fin 48)) (s : State) (n : Fin 48) : (cutSlot m w s n).free = s.free := by
  simp only [cutSlot]; repeat' split
  all_goals rfl
@[simp] theorem cutSlot_pending (m : Half) (w : Option (Fin 48)) (s : State) (n : Fin 48) : (cutSlot m w s n).pending = s.pending := by
  simp only [cutSlot]; repeat' split
  all_goals rfl

@[simp] theorem cutBy_port (m : Half) (w : Option (Fin 48)) (s : State) : (cutBy m w s).port = s.port := by
  exact foldl_keeps (g := State.port) (cutSlot_port m w) _ s
@[simp] theorem cutBy_time (m : Half) (w : Option (Fin 48)) (s : State) : (cutBy m w s).time = s.time := by
  exact foldl_keeps (g := State.time) (cutSlot_time m w) _ s
@[simp] theorem cutBy_chans (m : Half) (w : Option (Fin 48)) (s : State) : (cutBy m w s).chans = s.chans := by
  exact foldl_keeps (g := State.chans) (cutSlot_chans m w) _ s
@[simp] theorem cutBy_edges (m : Half) (w : Option (Fin 48)) (s : State) : (cutBy m w s).edges = s.edges := by
  exact foldl_keeps (g := State.edges) (cutSlot_edges m w) _ s
@[simp] theorem cutBy_ward (m : Half) (w : Option (Fin 48)) (s : State) : (cutBy m w s).ward = s.ward := by
  exact foldl_keeps (g := State.ward) (cutSlot_ward m w) _ s
@[simp] theorem cutBy_stand (m : Half) (w : Option (Fin 48)) (s : State) : (cutBy m w s).stand = s.stand := by
  exact foldl_keeps (g := State.stand) (cutSlot_stand m w) _ s
@[simp] theorem cutBy_store (m : Half) (w : Option (Fin 48)) (s : State) : (cutBy m w s).store = s.store := by
  exact foldl_keeps (g := State.store) (cutSlot_store m w) _ s
@[simp] theorem cutBy_sys (m : Half) (w : Option (Fin 48)) (s : State) : (cutBy m w s).sys = s.sys := by
  exact foldl_keeps (g := State.sys) (cutSlot_sys m w) _ s
@[simp] theorem cutBy_pins (m : Half) (w : Option (Fin 48)) (s : State) : (cutBy m w s).pins = s.pins := by
  exact foldl_keeps (g := State.pins) (cutSlot_pins m w) _ s
@[simp] theorem cutBy_free (m : Half) (w : Option (Fin 48)) (s : State) : (cutBy m w s).free = s.free := by
  exact foldl_keeps (g := State.free) (cutSlot_free m w) _ s
@[simp] theorem cutBy_pending (m : Half) (w : Option (Fin 48)) (s : State) : (cutBy m w s).pending = s.pending := by
  exact foldl_keeps (g := State.pending) (cutSlot_pending m w) _ s

/-- A cut leaves the due list, the freeze and every generation alone. -/
theorem cutSlot_kept (m : Half) (w : Option (Fin 48)) (s : State) (n : Fin 48) :
    (cutSlot m w s n).cues.due = s.cues.due ∧ (cutSlot m w s n).cues.frozen = s.cues.frozen := by
  simp only [cutSlot]
  repeat' split
  all_goals exact ⟨rfl, rfl⟩

theorem cutBy_due (m : Half) (w : Option (Fin 48)) (s : State) : (cutBy m w s).cues.due = s.cues.due :=
  foldl_keeps (g := fun s => s.cues.due) (fun s n => (cutSlot_kept m w s n).1) _ s

theorem cutBy_frozen (m : Half) (w : Option (Fin 48)) (s : State) : (cutBy m w s).cues.frozen = s.cues.frozen :=
  foldl_keeps (g := fun s => s.cues.frozen) (fun s n => (cutSlot_kept m w s n).2) _ s

/-! ## The due list -/

/-- Placement changes nothing but the due list. -/
theorem place_eq (n : Fin 48) (s : State) : place n s = s.setCues { s.cues with due := (place n s).cues.due } := by
  simp only [place]
  repeat' split
  all_goals rfl

@[simp] theorem place_port (n : Fin 48) (s : State) : (place n s).port = s.port := by
  rw [place_eq]; rfl
@[simp] theorem place_time (n : Fin 48) (s : State) : (place n s).time = s.time := by
  rw [place_eq]; rfl
@[simp] theorem place_chans (n : Fin 48) (s : State) : (place n s).chans = s.chans := by
  rw [place_eq]; rfl
@[simp] theorem place_edges (n : Fin 48) (s : State) : (place n s).edges = s.edges := by
  rw [place_eq]; rfl
@[simp] theorem place_notes (n : Fin 48) (s : State) : (place n s).notes = s.notes := by
  rw [place_eq]; rfl
@[simp] theorem place_ward (n : Fin 48) (s : State) : (place n s).ward = s.ward := by
  rw [place_eq]; rfl
@[simp] theorem place_stand (n : Fin 48) (s : State) : (place n s).stand = s.stand := by
  rw [place_eq]; rfl
@[simp] theorem place_store (n : Fin 48) (s : State) : (place n s).store = s.store := by
  rw [place_eq]; rfl
@[simp] theorem place_sys (n : Fin 48) (s : State) : (place n s).sys = s.sys := by
  rw [place_eq]; rfl
@[simp] theorem place_pins (n : Fin 48) (s : State) : (place n s).pins = s.pins := by
  rw [place_eq]; rfl
@[simp] theorem place_free (n : Fin 48) (s : State) : (place n s).free = s.free := by
  rw [place_eq]; rfl
@[simp] theorem place_pending (n : Fin 48) (s : State) : (place n s).pending = s.pending := by
  rw [place_eq]; rfl

@[simp] theorem place_slots (n : Fin 48) (s : State) : (place n s).cues.slots = s.cues.slots := by
  rw [place_eq]; rfl

@[simp] theorem place_cueAt (n m : Fin 48) (s : State) : (place n s).cueAt m = s.cueAt m := by
  simp [State.cueAt]

/-- R69, R71: placement puts a cue with a key once into the due list, and keeps the other entries. -/
theorem place_due_perm (n : Fin 48) (s : State) (c : Cue) (h : s.cueAt n = some c) (k : c.key.isSome = true) :
    ((place n s).cues.due).Perm (n :: s.cues.due.filter fun m => m != n) := by
  obtain ⟨K, hK⟩ := Option.isSome_iff_exists.1 k
  simp only [place, h, hK]
  refine List.perm_middle.trans (List.Perm.cons _ ?_)
  exact List.Perm.of_eq (List.takeWhile_append_dropWhile ..)

@[simp] theorem unlist_port (n : Fin 48) (s : State) : (unlist n s).port = s.port := by
  rfl
@[simp] theorem unlist_time (n : Fin 48) (s : State) : (unlist n s).time = s.time := by
  rfl
@[simp] theorem unlist_chans (n : Fin 48) (s : State) : (unlist n s).chans = s.chans := by
  rfl
@[simp] theorem unlist_edges (n : Fin 48) (s : State) : (unlist n s).edges = s.edges := by
  rfl
@[simp] theorem unlist_notes (n : Fin 48) (s : State) : (unlist n s).notes = s.notes := by
  rfl
@[simp] theorem unlist_ward (n : Fin 48) (s : State) : (unlist n s).ward = s.ward := by
  rfl
@[simp] theorem unlist_stand (n : Fin 48) (s : State) : (unlist n s).stand = s.stand := by
  rfl
@[simp] theorem unlist_store (n : Fin 48) (s : State) : (unlist n s).store = s.store := by
  rfl
@[simp] theorem unlist_sys (n : Fin 48) (s : State) : (unlist n s).sys = s.sys := by
  rfl
@[simp] theorem unlist_pins (n : Fin 48) (s : State) : (unlist n s).pins = s.pins := by
  rfl
@[simp] theorem unlist_free (n : Fin 48) (s : State) : (unlist n s).free = s.free := by
  rfl
@[simp] theorem unlist_pending (n : Fin 48) (s : State) : (unlist n s).pending = s.pending := by
  rfl

@[simp] theorem freeSlot_port (n : Fin 48) (s : State) : (freeSlot n s).port = s.port := by
  rfl
@[simp] theorem freeSlot_time (n : Fin 48) (s : State) : (freeSlot n s).time = s.time := by
  rfl
@[simp] theorem freeSlot_chans (n : Fin 48) (s : State) : (freeSlot n s).chans = s.chans := by
  rfl
@[simp] theorem freeSlot_edges (n : Fin 48) (s : State) : (freeSlot n s).edges = s.edges := by
  rfl
@[simp] theorem freeSlot_notes (n : Fin 48) (s : State) : (freeSlot n s).notes = s.notes := by
  rfl
@[simp] theorem freeSlot_ward (n : Fin 48) (s : State) : (freeSlot n s).ward = s.ward := by
  rfl
@[simp] theorem freeSlot_stand (n : Fin 48) (s : State) : (freeSlot n s).stand = s.stand := by
  rfl
@[simp] theorem freeSlot_store (n : Fin 48) (s : State) : (freeSlot n s).store = s.store := by
  rfl
@[simp] theorem freeSlot_sys (n : Fin 48) (s : State) : (freeSlot n s).sys = s.sys := by
  rfl
@[simp] theorem freeSlot_pins (n : Fin 48) (s : State) : (freeSlot n s).pins = s.pins := by
  rfl
@[simp] theorem freeSlot_free (n : Fin 48) (s : State) : (freeSlot n s).free = s.free := by
  rfl
@[simp] theorem freeSlot_pending (n : Fin 48) (s : State) : (freeSlot n s).pending = s.pending := by
  rfl

/-- R58: the cue of a slot is gone after freeing; the others are as before. -/
theorem freeSlot_cueAt (n m : Fin 48) (s : State) : (freeSlot n s).cueAt m = if m = n then none else s.cueAt m := by
  simp only [freeSlot, unlist, State.cueAt, State.setCues]
  split
  · rename_i h
    subst h
    simp
  · rename_i h
    have : n.val ≠ m.val := fun e => h (Fin.ext e.symm)
    simp [this]

theorem freeSlot_due (n : Fin 48) (s : State) : (freeSlot n s).cues.due = s.cues.due.filter fun m => m != n := rfl

/-! ## Channels -/

/-- R44: a masked write, channel by channel. -/
theorem writeMask_getElem (m : Half) (k : LevelKind) (chans : Vector Channel 16) (i : Fin 16) :
    (writeMask m k chans)[i] =
      if m.getLsbD i.val = true then { chans[i] with level := resulting k chans[i].level } else chans[i] := by
  simp [writeMask]

/-- A masked write is the write of the statements. -/
theorem writeMask_eq (m : Half) (k : LevelKind) (chans : Vector Channel 16) : writeMask m k chans = written m k chans := by
  have : resulting = levelAfter := by
    funext k l
    cases k <;> cases l <;> rfl
  simp [writeMask, written, this]

end Sys2Proof.Machine
end

