-- ==== Sys2Proof/Laws/Blocks.lean ====
section
/-! SUPPORT. What the shared operations of the cue table, the stand-in engine, the warden, the store engine and reset leave alone. -/

namespace Sys2Proof.Machine

/-! ## Series and the late rule -/

@[simp] theorem endSeries_port (n : Fin 48) (c : Nat) (s : State) : (endSeries n c s).port = s.port := by
  simp only [endSeries]; repeat' split
  all_goals rfl
@[simp] theorem endSeries_time (n : Fin 48) (c : Nat) (s : State) : (endSeries n c s).time = s.time := by
  simp only [endSeries]; repeat' split
  all_goals rfl
@[simp] theorem endSeries_chans (n : Fin 48) (c : Nat) (s : State) : (endSeries n c s).chans = s.chans := by
  simp only [endSeries]; repeat' split
  all_goals rfl
@[simp] theorem endSeries_edges (n : Fin 48) (c : Nat) (s : State) : (endSeries n c s).edges = s.edges := by
  simp only [endSeries]; repeat' split
  all_goals rfl
@[simp] theorem endSeries_ward (n : Fin 48) (c : Nat) (s : State) : (endSeries n c s).ward = s.ward := by
  simp only [endSeries]; repeat' split
  all_goals rfl
@[simp] theorem endSeries_stand (n : Fin 48) (c : Nat) (s : State) : (endSeries n c s).stand = s.stand := by
  simp only [endSeries]; repeat' split
  all_goals rfl
@[simp] theorem endSeries_store (n : Fin 48) (c : Nat) (s : State) : (endSeries n c s).store = s.store := by
  simp only [endSeries]; repeat' split
  all_goals rfl
@[simp] theorem endSeries_sys (n : Fin 48) (c : Nat) (s : State) : (endSeries n c s).sys = s.sys := by
  simp only [endSeries]; repeat' split
  all_goals rfl
@[simp] theorem endSeries_pins (n : Fin 48) (c : Nat) (s : State) : (endSeries n c s).pins = s.pins := by
  simp only [endSeries]; repeat' split
  all_goals rfl
@[simp] theorem endSeries_free (n : Fin 48) (c : Nat) (s : State) : (endSeries n c s).free = s.free := by
  simp only [endSeries]; repeat' split
  all_goals rfl
@[simp] theorem endSeries_pending (n : Fin 48) (c : Nat) (s : State) : (endSeries n c s).pending = s.pending := by
  simp only [endSeries]; repeat' split
  all_goals rfl

@[simp] theorem reschedule_port (n : Fin 48) (s : State) : (reschedule n s).port = s.port := by
  simp only [reschedule]; repeat' split
  all_goals simp [State.setCue]
@[simp] theorem reschedule_time (n : Fin 48) (s : State) : (reschedule n s).time = s.time := by
  simp only [reschedule]; repeat' split
  all_goals simp [State.setCue]
@[simp] theorem reschedule_chans (n : Fin 48) (s : State) : (reschedule n s).chans = s.chans := by
  simp only [reschedule]; repeat' split
  all_goals simp [State.setCue]
@[simp] theorem reschedule_edges (n : Fin 48) (s : State) : (reschedule n s).edges = s.edges := by
  simp only [reschedule]; repeat' split
  all_goals simp [State.setCue]
@[simp] theorem reschedule_notes (n : Fin 48) (s : State) : (reschedule n s).notes = s.notes := by
  simp only [reschedule]; repeat' split
  all_goals simp [State.setCue]
@[simp] theorem reschedule_ward (n : Fin 48) (s : State) : (reschedule n s).ward = s.ward := by
  simp only [reschedule]; repeat' split
  all_goals simp [State.setCue]
@[simp] theorem reschedule_stand (n : Fin 48) (s : State) : (reschedule n s).stand = s.stand := by
  simp only [reschedule]; repeat' split
  all_goals simp [State.setCue]
@[simp] theorem reschedule_store (n : Fin 48) (s : State) : (reschedule n s).store = s.store := by
  simp only [reschedule]; repeat' split
  all_goals simp [State.setCue]
@[simp] theorem reschedule_sys (n : Fin 48) (s : State) : (reschedule n s).sys = s.sys := by
  simp only [reschedule]; repeat' split
  all_goals simp [State.setCue]
@[simp] theorem reschedule_pins (n : Fin 48) (s : State) : (reschedule n s).pins = s.pins := by
  simp only [reschedule]; repeat' split
  all_goals simp [State.setCue]
@[simp] theorem reschedule_free (n : Fin 48) (s : State) : (reschedule n s).free = s.free := by
  simp only [reschedule]; repeat' split
  all_goals simp [State.setCue]
@[simp] theorem reschedule_pending (n : Fin 48) (s : State) : (reschedule n s).pending = s.pending := by
  simp only [reschedule]; repeat' split
  all_goals simp [State.setCue]

@[simp] theorem completeOccurrence_port (n : Fin 48) (s : State) : (completeOccurrence n s).port = s.port := by
  simp only [completeOccurrence]; repeat' split
  all_goals simp [State.setCue]
@[simp] theorem completeOccurrence_time (n : Fin 48) (s : State) : (completeOccurrence n s).time = s.time := by
  simp only [completeOccurrence]; repeat' split
  all_goals simp [State.setCue]
@[simp] theorem completeOccurrence_chans (n : Fin 48) (s : State) : (completeOccurrence n s).chans = s.chans := by
  simp only [completeOccurrence]; repeat' split
  all_goals simp [State.setCue]
@[simp] theorem completeOccurrence_edges (n : Fin 48) (s : State) : (completeOccurrence n s).edges = s.edges := by
  simp only [completeOccurrence]; repeat' split
  all_goals simp [State.setCue]
@[simp] theorem completeOccurrence_ward (n : Fin 48) (s : State) : (completeOccurrence n s).ward = s.ward := by
  simp only [completeOccurrence]; repeat' split
  all_goals simp [State.setCue]
@[simp] theorem completeOccurrence_stand (n : Fin 48) (s : State) : (completeOccurrence n s).stand = s.stand := by
  simp only [completeOccurrence]; repeat' split
  all_goals simp [State.setCue]
@[simp] theorem completeOccurrence_store (n : Fin 48) (s : State) : (completeOccurrence n s).store = s.store := by
  simp only [completeOccurrence]; repeat' split
  all_goals simp [State.setCue]
@[simp] theorem completeOccurrence_sys (n : Fin 48) (s : State) : (completeOccurrence n s).sys = s.sys := by
  simp only [completeOccurrence]; repeat' split
  all_goals simp [State.setCue]
@[simp] theorem completeOccurrence_pins (n : Fin 48) (s : State) : (completeOccurrence n s).pins = s.pins := by
  simp only [completeOccurrence]; repeat' split
  all_goals simp [State.setCue]
@[simp] theorem completeOccurrence_free (n : Fin 48) (s : State) : (completeOccurrence n s).free = s.free := by
  simp only [completeOccurrence]; repeat' split
  all_goals simp [State.setCue]
@[simp] theorem completeOccurrence_pending (n : Fin 48) (s : State) : (completeOccurrence n s).pending = s.pending := by
  simp only [completeOccurrence]; repeat' split
  all_goals simp [State.setCue]

@[simp] theorem missOccurrences_port (n : Fin 48) (c : Cue) (m : Nat) (s : State) : (missOccurrences n c m s).port = s.port := by
  simp only [missOccurrences]; split <;> rfl
@[simp] theorem missOccurrences_time (n : Fin 48) (c : Cue) (m : Nat) (s : State) : (missOccurrences n c m s).time = s.time := by
  simp only [missOccurrences]; split <;> rfl
@[simp] theorem missOccurrences_chans (n : Fin 48) (c : Cue) (m : Nat) (s : State) : (missOccurrences n c m s).chans = s.chans := by
  simp only [missOccurrences]; split <;> rfl
@[simp] theorem missOccurrences_edges (n : Fin 48) (c : Cue) (m : Nat) (s : State) : (missOccurrences n c m s).edges = s.edges := by
  simp only [missOccurrences]; split <;> rfl
@[simp] theorem missOccurrences_ward (n : Fin 48) (c : Cue) (m : Nat) (s : State) : (missOccurrences n c m s).ward = s.ward := by
  simp only [missOccurrences]; split <;> rfl
@[simp] theorem missOccurrences_stand (n : Fin 48) (c : Cue) (m : Nat) (s : State) : (missOccurrences n c m s).stand = s.stand := by
  simp only [missOccurrences]; split <;> rfl
@[simp] theorem missOccurrences_store (n : Fin 48) (c : Cue) (m : Nat) (s : State) : (missOccurrences n c m s).store = s.store := by
  simp only [missOccurrences]; split <;> rfl
@[simp] theorem missOccurrences_sys (n : Fin 48) (c : Cue) (m : Nat) (s : State) : (missOccurrences n c m s).sys = s.sys := by
  simp only [missOccurrences]; split <;> rfl
@[simp] theorem missOccurrences_pins (n : Fin 48) (c : Cue) (m : Nat) (s : State) : (missOccurrences n c m s).pins = s.pins := by
  simp only [missOccurrences]; split <;> rfl
@[simp] theorem missOccurrences_free (n : Fin 48) (c : Cue) (m : Nat) (s : State) : (missOccurrences n c m s).free = s.free := by
  simp only [missOccurrences]; split <;> rfl
@[simp] theorem missOccurrences_pending (n : Fin 48) (c : Cue) (m : Nat) (s : State) : (missOccurrences n c m s).pending = s.pending := by
  simp only [missOccurrences]; split <;> rfl

@[simp] theorem lateRule_port (n : Fin 48) (b : Bool) (s : State) : ((lateRule n b s).state).port = s.port := by
  simp only [lateRule, lateFire, lateSkip]; repeat' split
  all_goals simp [State.setCue]
@[simp] theorem lateRule_time (n : Fin 48) (b : Bool) (s : State) : ((lateRule n b s).state).time = s.time := by
  simp only [lateRule, lateFire, lateSkip]; repeat' split
  all_goals simp [State.setCue]
@[simp] theorem lateRule_chans (n : Fin 48) (b : Bool) (s : State) : ((lateRule n b s).state).chans = s.chans := by
  simp only [lateRule, lateFire, lateSkip]; repeat' split
  all_goals simp [State.setCue]
@[simp] theorem lateRule_edges (n : Fin 48) (b : Bool) (s : State) : ((lateRule n b s).state).edges = s.edges := by
  simp only [lateRule, lateFire, lateSkip]; repeat' split
  all_goals simp [State.setCue]
@[simp] theorem lateRule_ward (n : Fin 48) (b : Bool) (s : State) : ((lateRule n b s).state).ward = s.ward := by
  simp only [lateRule, lateFire, lateSkip]; repeat' split
  all_goals simp [State.setCue]
@[simp] theorem lateRule_stand (n : Fin 48) (b : Bool) (s : State) : ((lateRule n b s).state).stand = s.stand := by
  simp only [lateRule, lateFire, lateSkip]; repeat' split
  all_goals simp [State.setCue]
@[simp] theorem lateRule_store (n : Fin 48) (b : Bool) (s : State) : ((lateRule n b s).state).store = s.store := by
  simp only [lateRule, lateFire, lateSkip]; repeat' split
  all_goals simp [State.setCue]
@[simp] theorem lateRule_sys (n : Fin 48) (b : Bool) (s : State) : ((lateRule n b s).state).sys = s.sys := by
  simp only [lateRule, lateFire, lateSkip]; repeat' split
  all_goals simp [State.setCue]
@[simp] theorem lateRule_pins (n : Fin 48) (b : Bool) (s : State) : ((lateRule n b s).state).pins = s.pins := by
  simp only [lateRule, lateFire, lateSkip]; repeat' split
  all_goals simp [State.setCue]
@[simp] theorem lateRule_free (n : Fin 48) (b : Bool) (s : State) : ((lateRule n b s).state).free = s.free := by
  simp only [lateRule, lateFire, lateSkip]; repeat' split
  all_goals simp [State.setCue]
@[simp] theorem lateRule_pending (n : Fin 48) (b : Bool) (s : State) : ((lateRule n b s).state).pending = s.pending := by
  simp only [lateRule, lateFire, lateSkip]; repeat' split
  all_goals simp [State.setCue]

/-! ## The cue stage -/

@[simp] theorem trailingEdge_port (n : Fin 48) (s : State) : (trailingEdge n s).port = s.port := by
  simp only [trailingEdge, countMasked]; repeat' split
  all_goals simp [State.setCue]
@[simp] theorem trailingEdge_time (n : Fin 48) (s : State) : (trailingEdge n s).time = s.time := by
  simp only [trailingEdge, countMasked]; repeat' split
  all_goals simp [State.setCue]
@[simp] theorem trailingEdge_edges (n : Fin 48) (s : State) : (trailingEdge n s).edges = s.edges := by
  simp only [trailingEdge, countMasked]; repeat' split
  all_goals simp [State.setCue]
@[simp] theorem trailingEdge_ward (n : Fin 48) (s : State) : (trailingEdge n s).ward = s.ward := by
  simp only [trailingEdge, countMasked]; repeat' split
  all_goals simp [State.setCue]
@[simp] theorem trailingEdge_store (n : Fin 48) (s : State) : (trailingEdge n s).store = s.store := by
  simp only [trailingEdge, countMasked]; repeat' split
  all_goals simp [State.setCue]
@[simp] theorem trailingEdge_sys (n : Fin 48) (s : State) : (trailingEdge n s).sys = s.sys := by
  simp only [trailingEdge, countMasked]; repeat' split
  all_goals simp [State.setCue]
@[simp] theorem trailingEdge_pins (n : Fin 48) (s : State) : (trailingEdge n s).pins = s.pins := by
  simp only [trailingEdge, countMasked]; repeat' split
  all_goals simp [State.setCue]
@[simp] theorem trailingEdge_free (n : Fin 48) (s : State) : (trailingEdge n s).free = s.free := by
  simp only [trailingEdge, countMasked]; repeat' split
  all_goals simp [State.setCue]
@[simp] theorem trailingEdge_pending (n : Fin 48) (s : State) : (trailingEdge n s).pending = s.pending := by
  simp only [trailingEdge, countMasked]; repeat' split
  all_goals simp [State.setCue]

@[simp] theorem countFired_port (n : Fin 48) (c : Cue) (b : Bool) (s : State) : (countFired n c b s).port = s.port := by
  simp only [countFired]; split <;> rfl
@[simp] theorem countFired_time (n : Fin 48) (c : Cue) (b : Bool) (s : State) : (countFired n c b s).time = s.time := by
  simp only [countFired]; split <;> rfl
@[simp] theorem countFired_chans (n : Fin 48) (c : Cue) (b : Bool) (s : State) : (countFired n c b s).chans = s.chans := by
  simp only [countFired]; split <;> rfl
@[simp] theorem countFired_edges (n : Fin 48) (c : Cue) (b : Bool) (s : State) : (countFired n c b s).edges = s.edges := by
  simp only [countFired]; split <;> rfl
@[simp] theorem countFired_ward (n : Fin 48) (c : Cue) (b : Bool) (s : State) : (countFired n c b s).ward = s.ward := by
  simp only [countFired]; split <;> rfl
@[simp] theorem countFired_stand (n : Fin 48) (c : Cue) (b : Bool) (s : State) : (countFired n c b s).stand = s.stand := by
  simp only [countFired]; split <;> rfl
@[simp] theorem countFired_store (n : Fin 48) (c : Cue) (b : Bool) (s : State) : (countFired n c b s).store = s.store := by
  simp only [countFired]; split <;> rfl
@[simp] theorem countFired_sys (n : Fin 48) (c : Cue) (b : Bool) (s : State) : (countFired n c b s).sys = s.sys := by
  simp only [countFired]; split <;> rfl
@[simp] theorem countFired_pins (n : Fin 48) (c : Cue) (b : Bool) (s : State) : (countFired n c b s).pins = s.pins := by
  simp only [countFired]; split <;> rfl
@[simp] theorem countFired_free (n : Fin 48) (c : Cue) (b : Bool) (s : State) : (countFired n c b s).free = s.free := by
  simp only [countFired]; split <;> rfl
@[simp] theorem countFired_pending (n : Fin 48) (c : Cue) (b : Bool) (s : State) : (countFired n c b s).pending = s.pending := by
  simp only [countFired]; split <;> rfl

@[simp] theorem fireAction_port (n : Fin 48) (c : Cue) (s : State) (l : Led) : ((fireAction n c s l).1).port = s.port := by
  simp only [fireAction, driveAndCut, countMasked]; repeat' split
  all_goals simp [State.setCue]
@[simp] theorem fireAction_time (n : Fin 48) (c : Cue) (s : State) (l : Led) : ((fireAction n c s l).1).time = s.time := by
  simp only [fireAction, driveAndCut, countMasked]; repeat' split
  all_goals simp [State.setCue]
@[simp] theorem fireAction_edges (n : Fin 48) (c : Cue) (s : State) (l : Led) : ((fireAction n c s l).1).edges = s.edges := by
  simp only [fireAction, driveAndCut, countMasked]; repeat' split
  all_goals simp [State.setCue]
@[simp] theorem fireAction_ward (n : Fin 48) (c : Cue) (s : State) (l : Led) : ((fireAction n c s l).1).ward = s.ward := by
  simp only [fireAction, driveAndCut, countMasked]; repeat' split
  all_goals simp [State.setCue]
@[simp] theorem fireAction_store (n : Fin 48) (c : Cue) (s : State) (l : Led) : ((fireAction n c s l).1).store = s.store := by
  simp only [fireAction, driveAndCut, countMasked]; repeat' split
  all_goals simp [State.setCue]
@[simp] theorem fireAction_sys (n : Fin 48) (c : Cue) (s : State) (l : Led) : ((fireAction n c s l).1).sys = s.sys := by
  simp only [fireAction, driveAndCut, countMasked]; repeat' split
  all_goals simp [State.setCue]
@[simp] theorem fireAction_pins (n : Fin 48) (c : Cue) (s : State) (l : Led) : ((fireAction n c s l).1).pins = s.pins := by
  simp only [fireAction, driveAndCut, countMasked]; repeat' split
  all_goals simp [State.setCue]
@[simp] theorem fireAction_free (n : Fin 48) (c : Cue) (s : State) (l : Led) : ((fireAction n c s l).1).free = s.free := by
  simp only [fireAction, driveAndCut, countMasked]; repeat' split
  all_goals simp [State.setCue]
@[simp] theorem fireAction_pending (n : Fin 48) (c : Cue) (s : State) (l : Led) : ((fireAction n c s l).1).pending = s.pending := by
  simp only [fireAction, driveAndCut, countMasked]; repeat' split
  all_goals simp [State.setCue]

@[simp] theorem leadingAction_port (n : Fin 48) (s : State) (l : Led) : ((leadingAction n (s, l)).1).port = s.port := by
  simp only [leadingAction, skipOccurrence]; repeat' split
  all_goals simp
@[simp] theorem leadingAction_time (n : Fin 48) (s : State) (l : Led) : ((leadingAction n (s, l)).1).time = s.time := by
  simp only [leadingAction, skipOccurrence]; repeat' split
  all_goals simp
@[simp] theorem leadingAction_edges (n : Fin 48) (s : State) (l : Led) : ((leadingAction n (s, l)).1).edges = s.edges := by
  simp only [leadingAction, skipOccurrence]; repeat' split
  all_goals simp
@[simp] theorem leadingAction_ward (n : Fin 48) (s : State) (l : Led) : ((leadingAction n (s, l)).1).ward = s.ward := by
  simp only [leadingAction, skipOccurrence]; repeat' split
  all_goals simp
@[simp] theorem leadingAction_store (n : Fin 48) (s : State) (l : Led) : ((leadingAction n (s, l)).1).store = s.store := by
  simp only [leadingAction, skipOccurrence]; repeat' split
  all_goals simp
@[simp] theorem leadingAction_sys (n : Fin 48) (s : State) (l : Led) : ((leadingAction n (s, l)).1).sys = s.sys := by
  simp only [leadingAction, skipOccurrence]; repeat' split
  all_goals simp
@[simp] theorem leadingAction_pins (n : Fin 48) (s : State) (l : Led) : ((leadingAction n (s, l)).1).pins = s.pins := by
  simp only [leadingAction, skipOccurrence]; repeat' split
  all_goals simp
@[simp] theorem leadingAction_free (n : Fin 48) (s : State) (l : Led) : ((leadingAction n (s, l)).1).free = s.free := by
  simp only [leadingAction, skipOccurrence]; repeat' split
  all_goals simp
@[simp] theorem leadingAction_pending (n : Fin 48) (s : State) (l : Led) : ((leadingAction n (s, l)).1).pending = s.pending := by
  simp only [leadingAction, skipOccurrence]; repeat' split
  all_goals simp

/-! ## Stand-in -/

@[simp] theorem evaluateBanks_port (s : State) : (evaluateBanks s).port = s.port := by
  rfl
@[simp] theorem evaluateBanks_time (s : State) : (evaluateBanks s).time = s.time := by
  rfl
@[simp] theorem evaluateBanks_chans (s : State) : (evaluateBanks s).chans = s.chans := by
  rfl
@[simp] theorem evaluateBanks_cues (s : State) : (evaluateBanks s).cues = s.cues := by
  rfl
@[simp] theorem evaluateBanks_edges (s : State) : (evaluateBanks s).edges = s.edges := by
  rfl
@[simp] theorem evaluateBanks_notes (s : State) : (evaluateBanks s).notes = s.notes := by
  rfl
@[simp] theorem evaluateBanks_ward (s : State) : (evaluateBanks s).ward = s.ward := by
  rfl
@[simp] theorem evaluateBanks_store (s : State) : (evaluateBanks s).store = s.store := by
  rfl
@[simp] theorem evaluateBanks_sys (s : State) : (evaluateBanks s).sys = s.sys := by
  rfl
@[simp] theorem evaluateBanks_pins (s : State) : (evaluateBanks s).pins = s.pins := by
  rfl
@[simp] theorem evaluateBanks_free (s : State) : (evaluateBanks s).free = s.free := by
  rfl
@[simp] theorem evaluateBanks_pending (s : State) : (evaluateBanks s).pending = s.pending := by
  rfl

@[simp] theorem wantEvaluation_port (s : State) : (wantEvaluation s).port = s.port := by
  simp only [wantEvaluation]; split <;> rfl
@[simp] theorem wantEvaluation_time (s : State) : (wantEvaluation s).time = s.time := by
  simp only [wantEvaluation]; split <;> rfl
@[simp] theorem wantEvaluation_chans (s : State) : (wantEvaluation s).chans = s.chans := by
  simp only [wantEvaluation]; split <;> rfl
@[simp] theorem wantEvaluation_cues (s : State) : (wantEvaluation s).cues = s.cues := by
  simp only [wantEvaluation]; split <;> rfl
@[simp] theorem wantEvaluation_edges (s : State) : (wantEvaluation s).edges = s.edges := by
  simp only [wantEvaluation]; split <;> rfl
@[simp] theorem wantEvaluation_notes (s : State) : (wantEvaluation s).notes = s.notes := by
  simp only [wantEvaluation]; split <;> rfl
@[simp] theorem wantEvaluation_ward (s : State) : (wantEvaluation s).ward = s.ward := by
  simp only [wantEvaluation]; split <;> rfl
@[simp] theorem wantEvaluation_store (s : State) : (wantEvaluation s).store = s.store := by
  simp only [wantEvaluation]; split <;> rfl
@[simp] theorem wantEvaluation_sys (s : State) : (wantEvaluation s).sys = s.sys := by
  simp only [wantEvaluation]; split <;> rfl
@[simp] theorem wantEvaluation_pins (s : State) : (wantEvaluation s).pins = s.pins := by
  simp only [wantEvaluation]; split <;> rfl
@[simp] theorem wantEvaluation_free (s : State) : (wantEvaluation s).free = s.free := by
  simp only [wantEvaluation]; split <;> rfl
@[simp] theorem wantEvaluation_pending (s : State) : (wantEvaluation s).pending = s.pending := by
  simp only [wantEvaluation]; split <;> rfl

@[simp] theorem entryStart_port (c : Cause) (s : State) : (entryStart c s).port = s.port := by
  simp only [entryStart]; repeat' split
  all_goals rfl
@[simp] theorem entryStart_chans (c : Cause) (s : State) : (entryStart c s).chans = s.chans := by
  simp only [entryStart]; repeat' split
  all_goals rfl
@[simp] theorem entryStart_cues (c : Cause) (s : State) : (entryStart c s).cues = s.cues := by
  simp only [entryStart]; repeat' split
  all_goals rfl
@[simp] theorem entryStart_edges (c : Cause) (s : State) : (entryStart c s).edges = s.edges := by
  simp only [entryStart]; repeat' split
  all_goals rfl
@[simp] theorem entryStart_notes (c : Cause) (s : State) : (entryStart c s).notes = s.notes := by
  simp only [entryStart]; repeat' split
  all_goals rfl
@[simp] theorem entryStart_store (c : Cause) (s : State) : (entryStart c s).store = s.store := by
  simp only [entryStart]; repeat' split
  all_goals rfl
@[simp] theorem entryStart_sys (c : Cause) (s : State) : (entryStart c s).sys = s.sys := by
  simp only [entryStart]; repeat' split
  all_goals rfl
@[simp] theorem entryStart_pins (c : Cause) (s : State) : (entryStart c s).pins = s.pins := by
  simp only [entryStart]; repeat' split
  all_goals rfl
@[simp] theorem entryStart_free (c : Cause) (s : State) : (entryStart c s).free = s.free := by
  simp only [entryStart]; repeat' split
  all_goals rfl
@[simp] theorem entryStart_pending (c : Cause) (s : State) : (entryStart c s).pending = s.pending := by
  simp only [entryStart]; repeat' split
  all_goals rfl

@[simp] theorem entryDrive_port (s : State) : (entryDrive s).port = s.port := by
  simp [entryDrive]
@[simp] theorem entryDrive_time (s : State) : (entryDrive s).time = s.time := by
  simp [entryDrive]
@[simp] theorem entryDrive_edges (s : State) : (entryDrive s).edges = s.edges := by
  simp [entryDrive]
@[simp] theorem entryDrive_ward (s : State) : (entryDrive s).ward = s.ward := by
  simp [entryDrive]
@[simp] theorem entryDrive_stand (s : State) : (entryDrive s).stand = s.stand := by
  simp [entryDrive]
@[simp] theorem entryDrive_store (s : State) : (entryDrive s).store = s.store := by
  simp [entryDrive]
@[simp] theorem entryDrive_sys (s : State) : (entryDrive s).sys = s.sys := by
  simp [entryDrive]
@[simp] theorem entryDrive_pins (s : State) : (entryDrive s).pins = s.pins := by
  simp [entryDrive]
@[simp] theorem entryDrive_free (s : State) : (entryDrive s).free = s.free := by
  simp [entryDrive]
@[simp] theorem entryDrive_pending (s : State) : (entryDrive s).pending = s.pending := by
  simp [entryDrive]

@[simp] theorem requestStandin_port (c : Cause) (s : State) : (requestStandin c s).port = s.port := by
  simp only [requestStandin, enterStandin, entryImage]; split <;> simp
@[simp] theorem requestStandin_edges (c : Cause) (s : State) : (requestStandin c s).edges = s.edges := by
  simp only [requestStandin, enterStandin, entryImage]; split <;> simp
@[simp] theorem requestStandin_sys (c : Cause) (s : State) : (requestStandin c s).sys = s.sys := by
  simp only [requestStandin, enterStandin, entryImage]; split <;> simp
@[simp] theorem requestStandin_pins (c : Cause) (s : State) : (requestStandin c s).pins = s.pins := by
  simp only [requestStandin, enterStandin, entryImage]; split <;> simp
@[simp] theorem requestStandin_free (c : Cause) (s : State) : (requestStandin c s).free = s.free := by
  simp only [requestStandin, enterStandin, entryImage]; split <;> simp
@[simp] theorem requestStandin_pending (c : Cause) (s : State) : (requestStandin c s).pending = s.pending := by
  simp only [requestStandin, enterStandin, entryImage]; split <;> simp

/-- An entry leaves all of the warden but the beat indicator, and only forces the timebase to run. -/
theorem requestStandin_ward (c : Cause) (s : State) :
    (requestStandin c s).ward = s.ward ∨ (requestStandin c s).ward = { s.ward with beatSince := false } := by
  simp only [requestStandin, enterStandin, entryImage]
  split
  · right
    simp only [queueJournal_ward, raise_ward, State.setStand_ward, entryDrive_ward, entryStart]
    repeat' split
    all_goals rfl
  · left
    rfl

/-! ## The warden -/

@[simp] theorem recordFault_port (k : FaultKind) (s : State) : (recordFault k s).port = s.port := by
  simp [recordFault]
@[simp] theorem recordFault_time (k : FaultKind) (s : State) : (recordFault k s).time = s.time := by
  simp [recordFault]
@[simp] theorem recordFault_chans (k : FaultKind) (s : State) : (recordFault k s).chans = s.chans := by
  simp [recordFault]
@[simp] theorem recordFault_cues (k : FaultKind) (s : State) : (recordFault k s).cues = s.cues := by
  simp [recordFault]
@[simp] theorem recordFault_edges (k : FaultKind) (s : State) : (recordFault k s).edges = s.edges := by
  simp [recordFault]
@[simp] theorem recordFault_stand (k : FaultKind) (s : State) : (recordFault k s).stand = s.stand := by
  simp [recordFault]
@[simp] theorem recordFault_sys (k : FaultKind) (s : State) : (recordFault k s).sys = s.sys := by
  simp [recordFault]
@[simp] theorem recordFault_pins (k : FaultKind) (s : State) : (recordFault k s).pins = s.pins := by
  simp [recordFault]
@[simp] theorem recordFault_free (k : FaultKind) (s : State) : (recordFault k s).free = s.free := by
  simp [recordFault]
@[simp] theorem recordFault_pending (k : FaultKind) (s : State) : (recordFault k s).pending = s.pending := by
  simp [recordFault]

@[simp] theorem wardenFault_port (k : FaultKind) (s : State) : (wardenFault k s).port = s.port := by
  simp only [wardenFault, wardenResponse, startHrst]; repeat' split
  all_goals simp
@[simp] theorem wardenFault_edges (k : FaultKind) (s : State) : (wardenFault k s).edges = s.edges := by
  simp only [wardenFault, wardenResponse, startHrst]; repeat' split
  all_goals simp
@[simp] theorem wardenFault_sys (k : FaultKind) (s : State) : (wardenFault k s).sys = s.sys := by
  simp only [wardenFault, wardenResponse, startHrst]; repeat' split
  all_goals simp
@[simp] theorem wardenFault_pins (k : FaultKind) (s : State) : (wardenFault k s).pins = s.pins := by
  simp only [wardenFault, wardenResponse, startHrst]; repeat' split
  all_goals simp
@[simp] theorem wardenFault_free (k : FaultKind) (s : State) : (wardenFault k s).free = s.free := by
  simp only [wardenFault, wardenResponse, startHrst]; repeat' split
  all_goals simp
@[simp] theorem wardenFault_pending (k : FaultKind) (s : State) : (wardenFault k s).pending = s.pending := by
  simp only [wardenFault, wardenResponse, startHrst]; repeat' split
  all_goals simp

/-! ## The store engine -/

@[simp] theorem land_port (b : Bool) (base : Nat) (d : List Byte) (n : Nat) (s : State) : (land b base d n s).port = s.port := by
  rfl
@[simp] theorem land_time (b : Bool) (base : Nat) (d : List Byte) (n : Nat) (s : State) : (land b base d n s).time = s.time := by
  rfl
@[simp] theorem land_chans (b : Bool) (base : Nat) (d : List Byte) (n : Nat) (s : State) : (land b base d n s).chans = s.chans := by
  rfl
@[simp] theorem land_cues (b : Bool) (base : Nat) (d : List Byte) (n : Nat) (s : State) : (land b base d n s).cues = s.cues := by
  rfl
@[simp] theorem land_edges (b : Bool) (base : Nat) (d : List Byte) (n : Nat) (s : State) : (land b base d n s).edges = s.edges := by
  rfl
@[simp] theorem land_notes (b : Bool) (base : Nat) (d : List Byte) (n : Nat) (s : State) : (land b base d n s).notes = s.notes := by
  rfl
@[simp] theorem land_ward (b : Bool) (base : Nat) (d : List Byte) (n : Nat) (s : State) : (land b base d n s).ward = s.ward := by
  rfl
@[simp] theorem land_stand (b : Bool) (base : Nat) (d : List Byte) (n : Nat) (s : State) : (land b base d n s).stand = s.stand := by
  rfl
@[simp] theorem land_sys (b : Bool) (base : Nat) (d : List Byte) (n : Nat) (s : State) : (land b base d n s).sys = s.sys := by
  rfl
@[simp] theorem land_pins (b : Bool) (base : Nat) (d : List Byte) (n : Nat) (s : State) : (land b base d n s).pins = s.pins := by
  rfl
@[simp] theorem land_pending (b : Bool) (base : Nat) (d : List Byte) (n : Nat) (s : State) : (land b base d n s).pending = s.pending := by
  rfl

@[simp] theorem goIdle_port (s : State) : (goIdle s).port = s.port := by
  simp [goIdle]
@[simp] theorem goIdle_time (s : State) : (goIdle s).time = s.time := by
  simp [goIdle]
@[simp] theorem goIdle_chans (s : State) : (goIdle s).chans = s.chans := by
  simp [goIdle]
@[simp] theorem goIdle_cues (s : State) : (goIdle s).cues = s.cues := by
  simp [goIdle]
@[simp] theorem goIdle_edges (s : State) : (goIdle s).edges = s.edges := by
  simp [goIdle]
@[simp] theorem goIdle_notes (s : State) : (goIdle s).notes = s.notes := by
  simp [goIdle]
@[simp] theorem goIdle_ward (s : State) : (goIdle s).ward = s.ward := by
  simp [goIdle]
@[simp] theorem goIdle_stand (s : State) : (goIdle s).stand = s.stand := by
  simp [goIdle]
@[simp] theorem goIdle_sys (s : State) : (goIdle s).sys = s.sys := by
  simp [goIdle]
@[simp] theorem goIdle_pins (s : State) : (goIdle s).pins = s.pins := by
  simp [goIdle]
@[simp] theorem goIdle_free (s : State) : (goIdle s).free = s.free := by
  simp [goIdle]
@[simp] theorem goIdle_pending (s : State) : (goIdle s).pending = s.pending := by
  simp [goIdle]

/-- A completed write that takes leaves its data, and erased bytes behind it (R182, R184, R191). -/
theorem land_true_pages (base : Nat) (d : List Byte) (n : Nat) (s : State) :
    (land true base d n s).store.pages = s.store.pages.writeRun base (d ++ List.replicate n erasedByte) := rfl

/-! ## Reset -/

@[simp] theorem takeReset_phase (k : ResetKind) (s : State) : (takeReset k s).sys.phase = .inReset := rfl
@[simp] theorem takeReset_softPending (k : ResetKind) (s : State) : (takeReset k s).sys.softPending = false := rfl
@[simp] theorem takeReset_inputs (k : ResetKind) (s : State) : (takeReset k s).pins.inputs = s.pins.inputs := rfl
@[simp] theorem takeReset_pending (k : ResetKind) (s : State) :
    (takeReset k s).pending = s.pending.filter outlivesReset := rfl
@[simp] theorem takeReset_port (k : ResetKind) (s : State) :
    (takeReset k s).port = { Port.reset with miso := misoLost (sentBefore k s) s.port.miso } := rfl
@[simp] theorem takeReset_misoPin (k : ResetKind) (s : State) :
    (takeReset k s).pins.miso = misoPin s.pins.inputs.nCs := rfl
@[simp] theorem takeReset_time (k : ResetKind) (s : State) : (takeReset k s).time = Timebase.reset := rfl
@[simp] theorem takeReset_cues (k : ResetKind) (s : State) : (takeReset k s).cues = CueTable.reset := rfl
@[simp] theorem takeReset_edges (k : ResetKind) (s : State) : (takeReset k s).edges = EdgeUnit.reset := rfl
@[simp] theorem takeReset_notes (k : ResetKind) (s : State) : (takeReset k s).notes = NoticeUnit.reset := rfl
@[simp] theorem takeReset_ward (k : ResetKind) (s : State) : (takeReset k s).ward = Warden.reset := rfl
@[simp] theorem takeReset_stand (k : ResetKind) (s : State) : (takeReset k s).stand = StandIn.reset := rfl

/-- R23: how much of a transaction a reset finds sent is at most all of it; and it is all of it once nCS was found high. -/
theorem sentBefore_le (k : ResetKind) (s : State) : sentBefore k s ≤ s.port.miso.length := by
  unfold sentBefore
  split
  · exact le_rfl
  · exact Nat.le_of_lt_succ (Nat.mod_lt _ (Nat.succ_pos _))

theorem sentBefore_high (k : ResetKind) (s : State) (h : s.pins.inputs.nCs = true) :
    sentBefore k s = s.port.miso.length := by simp [sentBefore, h]

/-- R198: a soft reset comes when the transaction has ended, and loses nothing of it. -/
theorem misoLost_soft (s : State) : misoLost (sentBefore .soft s) s.port.miso = s.port.miso := by
  simp [misoLost, sentBefore]

/-- R41: what the statements call not abandoned is what outlives a reset. -/
theorem outlivesReset_eq : outlivesReset = notAbandoned := by
  funext c
  cases c <;> rfl

/-- R185: the pages after a reset are those before it, or one write over them. -/
theorem tornPages_wf (s : State) (h : Memory.wf s.store.pages) : Memory.wf (tornPages s) := by
  simp only [tornPages]
  split
  · exact h
  · exact Memory.wf_tear h _ _ _
  · exact Memory.wf_tear h _ _ _
  · split
    · exact Memory.wf_tear h _ _ _
    · exact h

end Sys2Proof.Machine
end

