-- ==== Sys2Proof/Laws/Port.lean ====
section
/-! SUPPORT. What the end of an event, the service of a transaction and the service of a command can do. -/

namespace Sys2Proof.Machine

/-! ## The end of an event -/

@[simp] theorem settle_port (s : State) : (settle s).port = s.port := rfl
@[simp] theorem settle_time (s : State) : (settle s).time = s.time := rfl
@[simp] theorem settle_chans (s : State) : (settle s).chans = s.chans := rfl
@[simp] theorem settle_cues (s : State) : (settle s).cues = s.cues := rfl
@[simp] theorem settle_edges (s : State) : (settle s).edges = s.edges := rfl
@[simp] theorem settle_notes (s : State) : (settle s).notes = s.notes.enterAll := rfl
@[simp] theorem settle_ward (s : State) : (settle s).ward = s.ward := rfl
@[simp] theorem settle_stand (s : State) : (settle s).stand = s.stand := rfl
@[simp] theorem settle_store (s : State) : (settle s).store = s.store := rfl
@[simp] theorem settle_sys (s : State) : (settle s).sys = s.sys := rfl
@[simp] theorem settle_inputs (s : State) : (settle s).pins.inputs = s.pins.inputs := rfl
@[simp] theorem settle_free (s : State) : (settle s).free = s.free := rfl
@[simp] theorem settle_pending (s : State) : (settle s).pending = s.pending := rfl

/-- Between events no raised notice waits (R129). -/
@[simp] theorem NoticeUnit.enterAll_raised (u : NoticeUnit) : u.enterAll.raised = [] := rfl

/-- An event that raised nothing leaves the notice unit as it was. -/
theorem NoticeUnit.enterAll_of_none (u : NoticeUnit) (h : u.raised = []) : u.enterAll = u := by
  cases u
  simp only at h
  subst h
  rfl

/-! ## MISO -/

/-- R1: the bits of a byte come most significant first. -/
theorem msbFirst_getD (b : Byte) (i : Nat) (h : i < 8) : (msbFirst b).getD i false = b.getMsbD i := by
  match i, h with
  | 0, _ => simp [msbFirst, BitVec.getMsbD]
  | 1, _ => simp [msbFirst, BitVec.getMsbD]
  | 2, _ => simp [msbFirst, BitVec.getMsbD]
  | 3, _ => simp [msbFirst, BitVec.getMsbD]
  | 4, _ => simp [msbFirst, BitVec.getMsbD]
  | 5, _ => simp [msbFirst, BitVec.getMsbD]
  | 6, _ => simp [msbFirst, BitVec.getMsbD]
  | 7, _ => simp [msbFirst, BitVec.getMsbD]
  | n + 8, h => omega

/-- R1: a bit of a run of bytes is a bit of the byte it falls in. -/
theorem bits_getD (l : List Byte) (i : Nat) (h : i < 8 * l.length) :
    (l.flatMap msbFirst).getD i false = (l.getD (i / 8) 0).getMsbD (i % 8) := by
  induction l generalizing i with
  | nil => simp at h
  | cons b l ih =>
    have len : (msbFirst b).length = 8 := rfl
    rw [List.flatMap_cons]
    by_cases hi : i < 8
    · rw [List.getD_append _ _ _ _ (by omega), msbFirst_getD b i hi, Nat.div_eq_of_lt hi, Nat.mod_eq_of_lt hi]
      rfl
    · rw [List.getD_append_right _ _ _ _ (by omega), len, ih (i - 8) (by simp at h; omega)]
      obtain ⟨j, rfl⟩ : ∃ j, i = j + 8 := ⟨i - 8, by omega⟩
      simp

/-- A run of bytes has eight bits a byte. -/
theorem bits_length (l : List Byte) : (l.flatMap msbFirst).length = 8 * l.length := by
  induction l with
  | nil => rfl
  | cons b l ih => rw [List.flatMap_cons, List.length_append, ih, List.length_cons]; simp [msbFirst]; omega

/-- R3: the levels of MISO are the bits of the bytes it sends, and 00h beyond them. -/
theorem misoBits_eq (clocks : Nat) (bytes : List Byte) : misoBits clocks bytes = carried clocks bytes := by
  apply List.ext_getElem
  · rw [misoBits, carried, List.length_map, List.length_range, List.length_take, bits_length, List.length_append,
      List.length_replicate]
    omega
  · intro i h₁ h₂
    have hi : i < clocks := by simpa [misoBits] using h₁
    have hb := bits_getD (bytes ++ List.replicate clocks 0x00) i (by simp; omega)
    have hl : i < ((bytes ++ List.replicate clocks 0x00).flatMap msbFirst).length := by rw [bits_length]; simp; omega
    rw [List.getD_eq_getElem _ _ hl] at hb
    simp only [misoBits, carried, List.getElem_map, List.getElem_range, List.getElem_take, hb, byteAt]
    congr 1
    by_cases hk : i / 8 < bytes.length
    · rw [List.getD_append _ _ _ _ hk]
    · rw [List.getD_append_right _ _ _ _ (by omega), List.getD_eq_default _ _ (by omega)]
      rw [List.getD_eq_getElem _ _ (by simp; omega), List.getElem_replicate]

/-- R3: MISO after a frame, in the words of the statements. -/
theorem misoBytes_eq (n frameLen : Nat) (response : List Byte) :
    misoBytes n frameLen response = misoAfter frameLen (markerFill n) response := by
  rw [misoBytes, misoAfter, List.append_assoc, List.replicate_append_replicate, List.singleton_append]

/-! ## Service of a command -/

/-- The input pins of an event, in the words of the statements. -/
theorem meetInputs_eq (pins : InPins) (s : State) : meetInputs pins s = met pins s := by
  cases h : pins.nCs <;> simp [meetInputs, met, misoPin, h]

/-- The port, as an event meets it. -/
@[simp] theorem met_port (pins : InPins) (s : State) :
    (met pins s).port = { s.port with ignoring := if pins.nCs = true then false else s.port.ignoring } := rfl

/-- The input pins touch the port only while it ignores a transaction. -/
theorem met_port_of_serving (pins : InPins) (s : State) (h : s.port.ignoring = false) : (met pins s).port = s.port := by
  rw [met_port, h, ite_self, ← h]

/-- An event at its input pins while no soft reset waits. -/
theorem meetPins_eq (pins : InPins) (s : State) (h : s.sys.softPending = false) : meetPins pins s = met pins s := by
  simp [meetPins, nCsRises, h, meetInputs_eq]

@[simp] theorem stopIgnoring_port (s : State) : (stopIgnoring s).port = { s.port with ignoring := false } := rfl
@[simp] theorem stopIgnoring_sys (s : State) : (stopIgnoring s).sys = s.sys := rfl
@[simp] theorem stopIgnoring_pins (s : State) : (stopIgnoring s).pins = s.pins := rfl
@[simp] theorem becomeReady_port (s : State) :
    (becomeReady s).port = { s.port with ignoring := !s.pins.inputs.nCs } := rfl
@[simp] theorem becomeReady_sys (s : State) : (becomeReady s).sys = { s.sys with phase := .ready } := rfl
@[simp] theorem becomeReady_pins (s : State) : (becomeReady s).pins = s.pins := rfl

/-- R22: readiness, in the words of the statements. -/
theorem becomeReady_eq (s : State) : becomeReady s = madeReady s := by
  cases h : s.pins.inputs.nCs <;> simp [becomeReady, madeReady, h]

/-- R22: what can become of a transaction while no soft reset waits. -/
theorem whenReady_cases (clocks : Nat) (fresh : Bool) (pins : InPins) (serve : State → State) (s : State)
    (h : s.sys.softPending = false) :
    whenReady clocks fresh pins serve s =
      if s.sys.phase = .ready ∧ (s.port.ignoring = true → fresh = true) then serve (met pins (stopIgnoring s))
      else noResponse clocks (met pins s) := by
  by_cases hp : s.sys.phase = .ready <;> cases hi : s.port.ignoring <;> cases fresh <;>
    simp [whenReady, nCsRises, ignores, meetInputs_eq, h, hp, hi]

/-- R22: a transaction at a port that serves them. -/
theorem whenReady_serving (clocks : Nat) (fresh : Bool) (pins : InPins) (serve : State → State) (s : State)
    (h : Serving s) : whenReady clocks fresh pins serve s = serve (met pins s) := by
  obtain ⟨ready, pending, on⟩ := h
  have hs : stopIgnoring s = s := by rw [stopIgnoring, ← on, State.setPort_self]
  simp [whenReady_cases _ _ _ _ _ pending, ready, on, hs]

/-- A served command is executed: its block's reply ends as R12, R13, R18 and R19 state, provided that the block makes no soft
reset pending and leaves the input pins alone. -/
theorem serveCommand_served (cmd : Command) (f : Frame) (s : State) (h : Served f s)
    (soft : (cmd.body f.params (met f.pins s)).state.sys.softPending = false)
    (inputs : (cmd.body f.params (met f.pins s)).state.pins.inputs = f.pins) :
    serveCommand cmd f s =
      let r := cmd.body f.params (met f.pins s)
      concluded f (if r.status = .ok then cmd.opens.map fun k => { kind := k, remaining := 10 } else none) r.status
        r.payload r.state := by
  obtain ⟨serving, fresh⟩ := h
  rw [serveCommand, whenReady_serving _ _ _ _ _ serving]
  have hf : isReplay f.seq (met f.pins s) = false := fresh
  simp only [serveIntact, hf, finish, softAtOnce, respond, concluded, concludedAfter, answered, portAfter,
    misoBits_eq, misoBytes_eq]
  simp [nCsRises, soft, inputs, Config.windowLife, frameSpan, frameClocks, misoZeros]

end Sys2Proof.Machine
end

