-- ==== Sys2Proof/Tests/Slice0.lean ====
section
/-! SUPPORT. Tests of single steps against the manual's worked examples and tables, the WellFormed smoke test, and for every
statement with premises a state and operands that meet them. -/

namespace Sys2Proof.Tests

-- One kernel evaluation at a time, so that the tests keep to the memory of one.
set_option Elab.async false

open Sys2Proof Sys2Proof.Machine

/-! ## Helpers -/

/-- nCS low, nFSAFE high, lines low. -/
def ip : InPins := { nCs := false, nFsafe := true, ins := 0 }

/-- A frame with sequence byte 01h. -/
def fr (params : List Byte) : Frame := { seq := 1, params := params, fill := 0, fresh := true, pins := ip }

/-- A transaction of some bytes. -/
def tx (bytes : List Byte) : Transaction := sent bytes [] true ip

/-- A new part whose port is ready and whose timebase is STOPPED. -/
def ready : State := showPins (State.reset.setSys { State.reset.sys with phase := .ready, asserted := ResetSet.none })

/-- The same with the timebase RUNNING at a tick count. -/
def running (now : Tick) : State := ready.setTime { ready.time with running := true, tick := now }

/-- The state that an outcome goes on with. -/
def got (o : Host.Outcome State Fault Refusal) : State :=
  match o with
  | .next s => s
  | .fault _ => State.reset
  | .refused _ => State.reset

/-- Status and payload that a command left in the replay cache (R13). -/
def answer (o : Host.Outcome State Fault Refusal) : Option (Status × List Byte) :=
  (got o).port.cache.map fun e => (e.status, e.payload)

/-- The worked cue of section 4.7: four pulses of 50 ticks on channels 0 and 1, 200 apart, from tick 20000. -/
def exampleCue : List Byte :=
  [0x45, 0x00, 0x00, 0x4E, 0x20, 0x00, 0x03, 0x04, 0x00, 0x00, 0x32, 0x00, 0x04, 0x00, 0x00, 0x00, 0xC8, 0x00, 0x01, 0x02]

/-- A pulse cue on channels 6 and 7 that waits in slot 0 for a due tick. -/
def pulse (wait : Wait) : Cue :=
  { trigger := .atTime 100, late := .fire, notifyFire := false, notifyEnd := false, retrigger := false, rearm := false
    mask := 0x00C0, action := .pulseHigh, width := 10, occurrences := 1, period := 0, guard := none, priority := 0, tag := 0
    wait := wait, remaining := 1, begun := false, fired := 0 }

/-- A state with one listed cue in slot 0. -/
def withCue (c : Cue) (s : State) : State := (s.setCue 0 c).setCues { (s.setCue 0 c).cues with due := [0] }

/-- Two cues due at tick 100 on channels 6 and 7: a pulse in slot 0, and in slot 1 one that drives LOW. -/
def twoCues : State :=
  let s := (withCue (pulse (.armed 100 100 false)) (running 99)).setCue 1
    { pulse (.armed 100 100 false) with action := .driveLow, width := 0 }
  s.setCues { s.cues with due := [0, 1] }

/-! ## WellFormed: each check refuses an ill-formed term -/

/-- R5: 25 parameter bytes are too many for every command row, 24 are not. -/
theorem test_wf_frame : (catalogue.all fun row => (row.2 (fr (List.replicate 24 0))).wf) = true ∧
    (catalogue.all fun row => !(row.2 (fr (List.replicate 25 0))).wf) = true := by decide +kernel

/-- R1, R8: an aborted frame stops before its length; no byte is no transaction. -/
theorem test_wf_frameAborted : (Instr.frameAborted (tx [0x04, 0x01])).wf = true ∧
    (Instr.frameAborted (tx [0x04, 0x01, 0x00, 0xBE])).wf = false := by decide +kernel

theorem test_wf_refusedTransaction : (Instr.refusedTransaction (tx [0x04])).wf = true ∧
    (Instr.refusedTransaction (tx [])).wf = false := by decide +kernel

theorem test_wf_lengthOutOfRange : (Instr.lengthOutOfRange (tx [0x03, 0x01, 0x00, 0x00])).wf = true ∧
    (Instr.lengthOutOfRange (tx [0x04, 0x01, 0x00, 0xBE])).wf = false := by decide +kernel

theorem test_wf_checkFailed : (Instr.checkFailed (tx [0x04, 0x01, 0x00, 0xBF])).wf = true ∧
    (Instr.checkFailed (tx [0x04, 0x01, 0x00, 0xBE])).wf = false := by decide +kernel

theorem test_wf_replay : (Instr.replay (tx [0x04, 0x01, 0x00, 0xBE])).wf = true ∧
    (Instr.replay (tx [0x04, 0x01, 0x00, 0xBF])).wf = false := by decide +kernel

theorem test_wf_unknownCommandCode : (Instr.unknownCommandCode (tx (encodeFrame 1 0x06 []))).wf = true ∧
    (Instr.unknownCommandCode (tx (encodeFrame 1 0x05 []))).wf = false := by decide +kernel

/-- R22: at most three warden milliseconds. -/
theorem test_wf_powerUpSequence : (Instr.powerUpSequence ⟨9, 1, 2, false, ip⟩).wf = true ∧
    (Instr.powerUpSequence ⟨9, 2, 2, false, ip⟩).wf = false := by decide +kernel

/-! ## The port (chapter 1) -/

/-- The worked check bytes: BEh for a frame, 30h for a response (section 1.2). -/
theorem test_crc8_examples : crc8 [0x04, 0x01, 0x00] = 0xBE ∧ crc8 [0x05, 0x01, 0x01, 0x00] = 0x30 := by decide +kernel

/-- The worked frame of SYS.STATUS is read as its sequence byte and code; with its last byte BFh its check fails. -/
theorem test_sysStatus_frame : classify [0x04, 0x01, 0x00, 0xBE] = .intact 0x01 0x00 [] ∧
    classify [0x04, 0x01, 0x00, 0xBF] = .checkFailed 0x01 := by decide +kernel

/-- R1: most significant bit first; an incomplete byte is discarded, and the clock is ignored while nCS is high. -/
theorem test_received_bits :
    let low (b : Bool) : SpiClock := { nCs := false, mosi := b }
    let high : SpiClock := { nCs := true, mosi := true }
    let clocks := [high] ++ [true, false, true, false, false, false, false, true, true, true].map low ++ [high]
    received { clocks := clocks, fresh := true, pins := ip } = [0xA1] := by decide +kernel

/-- The worked transaction of section 1.2, with the marker on the second fill byte. -/
theorem test_miso_example : misoBits 96 (misoAfter 4 1 [0x05, 0x01, 0x01, 0x00, 0x30]) =
    List.flatMap msbFirst [0x00, 0x00, 0x00, 0x00, 0x00, 0x5A, 0x05, 0x01, 0x01, 0x00, 0x30, 0x00] := by decide +kernel

/-- R1: MISO is driven while nCS is low, and in high impedance while it is high. -/
theorem test_miso_pin : (got (exec (.timeRead (fr [])) ready)).pins.miso = .driven ∧
    (got (exec (.tick { ip with nCs := true }) (running 5))).pins.miso = .hiZ := by decide +kernel

/-- The worked response to the corrupted frame: 05h 01h 01h 00h 30h. -/
theorem test_checkFailed_response : (got (exec (.checkFailed (tx [0x04, 0x01, 0x00, 0xBF])) ready)).port.response =
    [0x05, 0x01, 0x01, 0x00, 0x30] := by decide +kernel

/-- R14: an aborted frame counts. -/
theorem test_frameAborted_counts : (got (exec (.frameAborted (tx [0x04, 0x01])) ready)).port.errors = 1 := by decide +kernel

/-- R19, Table 1-5a: a request opens its window; its completion without one is ERR_SEQUENCE. -/
theorem test_storeOpen_window : (got (exec (.storeOpen (fr [])) ready)).port.window = some { kind := .store, remaining := 10 } ∧
    answer (exec (.storeWipe (fr [])) ready) = some (.sequence, []) := by decide +kernel

/-- R22: before the port is ready a command has no effect and MISO carries 00h. -/
theorem test_sysStatus_ignored : (got (exec (.sysStatus (fr [])) State.reset)).port.miso = List.replicate 32 false ∧
    (got (exec (.sysStatus (fr [])) State.reset)).port.cache = none := by decide +kernel

/-! ## System and timebase (chapters 2 and 11) -/

/-- R202. -/
theorem test_sysIdentify : answer (exec (.sysIdentify (fr [])) ready) =
    some (.ok, [0x50, 0x48, 0x16, 0x03, 48, 16, 8, 64, 32]) := by decide +kernel

/-- R203 on a new part: no errors, cause as kept, HOST, OFF, IDLE, STOPPED, erased, no window, 48 free slots. -/
theorem test_sysStatus : answer (exec (.sysStatus (fr [])) ready) =
    some (.ok, [0, 0, 0, 0, 0, 0, 0, 0, 0, 0, 48]) := by decide +kernel

/-- R33, R34: TIME.RUN runs; TIME.STOP of a STOPPED timebase is ERR_STATE. -/
theorem test_timeRun : (got (exec (.timeRun (fr [])) ready)).time.running = true ∧
    answer (exec (.timeStop (fr [])) ready) = some (.state, []) := by decide +kernel

/-- R35: TIME.SET, most significant byte first. -/
theorem test_timeSet : (got (exec (.timeSet (fr [0x00, 0x00, 0x4E, 0x20])) ready)).time.tick = 20000 := by decide +kernel

/-- R32, the worked distances near the wrap. -/
theorem test_dueClass_examples : dueClass 4294967200 4294967201 = .acceptable ∧ dueClass 4294967200 50 = .acceptable ∧
    dueClass 4294967200 4294967200 = .late ∧ dueClass 4294967200 4294967199 = .late ∧
    dueClass 4294967200 1073741728 = .acceptable ∧ dueClass 4294967200 1073741729 = .beyond ∧
    dueClass 4294967200 2147483552 = .late := by decide +kernel

/-- R36, R46: a tick counts one up. -/
theorem test_tick_counts : (got (exec (.tick ip) (running 99))).time.tick = 100 := by decide +kernel

/-- The worked clock loss: the second event without an edge substitutes (section 2.2). -/
theorem test_clockSubst :
    let s := ready.setTime { ready.time with
      active := .external, configured := .external, refNew := false, refOld := true, sinceReady := 2 }
    let t := got (exec (.wardenMsEvent { xinEdge := false, takes := true, pins := ip }) s)
    t.time.active = .internal ∧ t.time.subst = true := by decide +kernel

/-- R199, R200, R22: a new part powers up HOST and STOPPED with the defaults, its RESET record being appended. -/
theorem test_powerUpSequence :
    let p : PowerUp := { steps := 9, msBeforeEntry := 1, msBeforeRecords := 0, xinEdge := false, pins := ip }
    let t := got (exec (.powerUpSequence p) State.reset)
    t.sys.phase = .ready ∧ t.sys.causes.code = 0x01 ∧ t.time.running = false ∧ t.time.wardenMs = 1 ∧ t.ward.tMax = 1000 ∧
      t.store.nextSlot = 1 ∧ t.store.nextSeq = 1 ∧ t.store.engine.code = 0x01 := by decide +kernel

/-- R195: a sequence that a reset abandons begins again; OUT pins leave high impedance at step 4, and step 7 has not yet entered. -/
theorem test_powerUpSequence_abandoned :
    let p (n : Fin 10) : PowerUp := { steps := n, msBeforeEntry := 0, msBeforeRecords := 0, xinEdge := false, pins := ip }
    let released := got (exec (.powerUpSequence (p 3)) (got (exec .pinReset ready)))
    let again := got (exec (.powerUpSequence (p 9)) (got (exec .brownoutReset released)))
    released.sys.causes.code = 0x04 ∧ released.pins.out[0] = .hiZ ∧
      (got (exec (.powerUpSequence (p 4)) released)).pins.out[0] = .low ∧
      again.sys.causes.code = 0x02 ∧ again.store.pages = [] := by decide +kernel

/-- R22: with nCS low when the port becomes ready, the transaction in progress is ignored to its end and the next is served; nCS
found high has ended it. -/
theorem test_portReady_nCsLow :
    let p : PowerUp := { steps := 9, msBeforeEntry := 0, msBeforeRecords := 0, xinEdge := false, pins := ip }
    let t := got (exec (.powerUpSequence p) State.reset)
    let u := got (exec (.timeRead { fr [] with fresh := false }) t)
    u.port.cache = none ∧ u.port.miso = List.replicate 32 false ∧ (got (exec (.timeRead (fr [])) u)).port.cache.isSome = true ∧
      (got (exec (.tick { ip with nCs := true }) u)).port.ignoring = false := by decide +kernel

/-- R22: with nCS high when the port becomes ready, it ignores no further transaction. -/
theorem test_portReady_nCsHigh :
    (got (exec .portReady (State.reset.setSys { State.reset.sys with phase := .poweringUp 8 }))).port.ignoring = false := by
  decide +kernel

/-- R27: an XIN period is seen while the timebase is STOPPED. -/
theorem test_sourcePeriod_stopped :
    (got (step (ready.setTime { ready.time with active := .external }))).time.xinSeen = true := by decide +kernel

/-- R39: of events that wait together the warden millisecond comes first, then the tick, then the command. -/
theorem test_arrive_order :
    let ms : MsInputs := { xinEdge := false, takes := true, pins := ip }
    (arrive (.wardenMsEvent ms) (arrive (.tick ip) (arrive (.timeRead (fr [])) ready))).pending =
      [.wardenMsEvent ms, .tick ip, .timeRead (fr [])] := by decide +kernel

/-- R41: a reset abandons a waiting tick; the sequence that waits for its release stays. -/
theorem test_pinReset_abandons :
    let p : PowerUp := { steps := 9, msBeforeEntry := 0, msBeforeRecords := 0, xinEdge := false, pins := ip }
    (got (exec .pinReset (ready.setPending [.tick ip, .powerUpSequence p]))).pending = [.powerUpSequence p] := by decide +kernel

/-- R195, R196: a pin reset holds the outputs and notes its kind. -/
theorem test_pinReset : (got (exec .pinReset ready)).sys.phase = .inReset ∧ (got (exec .pinReset ready)).sys.asserted.code = 0x04 := by
  decide +kernel

/-! ## Channels and cues (chapters 3 to 5) -/

/-- The worked CUE.ADD of section 4.7: with tick count 19000 ARMED at 20000 in slot 0; with 20000 ERR_LATE; with control byte 44h
and tick count 20000, next due tick 20001. -/
theorem test_cueAdd_example :
    answer (exec (.cueAdd (fr exampleCue)) (running 19000)) = some (.ok, [0, 0, 0x01, 0x00, 0x00, 0x4E, 0x20, 0, 0]) ∧
    answer (exec (.cueAdd (fr exampleCue)) (running 20000)) = some (.late, []) ∧
    answer (exec (.cueAdd (fr (0x44 :: exampleCue.tail))) (running 20000)) =
      some (.ok, [0, 0, 0x01, 0x00, 0x00, 0x4E, 0x21, 0, 0]) := by decide +kernel

/-- The worked handles of section 4.12: 0 after reuse is stale, 49152 and 2048 name no live cue. -/
theorem test_cueQuery_handles :
    let s := (running 1).setCues { (running 1).cues with
      slots := (running 1).cues.slots.set 0 { gen := 1, cue := some (pulse (.armed 100 100 false)) } }
    answer (exec (.cueQuery (fr [0x00, 0x00])) s) = some (.stale, []) ∧
    answer (exec (.cueQuery (fr [0xC0, 0x00])) s) = some (.param, []) ∧
    answer (exec (.cueAmend (fr [0x08, 0x00, 0, 0, 0, 0])) s) = some (.stale, []) := by decide +kernel

/-- The worked pulse of section 3.6, tick 100: the leading edge drives 6 and 7 HIGH until tick 110. -/
theorem test_tick_leading :
    let t := got (exec (.tick ip) (withCue (pulse (.armed 100 100 false)) (running 99)))
    (t.chans[6]).level = .high ∧ (t.chans[7]).level = .high ∧
      (t.cueAt 0).map Cue.wait = some (.inPulse 110 100 0x00C0 false) ∧ t.cues.fired = 1 := by decide +kernel

/-- R98, R101: HIGH and then LOW in one tick is one conflict, and the second write cuts the pulse. -/
theorem test_tick_conflict :
    let t := got (exec (.tick ip) twoCues)
    t.cues.conflicts = 1 ∧ t.cues.cut = 2 ∧ (t.chans[6]).level = .low ∧
      t.notes.routine.map (fun n => (n.cls, n.detail)) = [(NoticeClass.cut, 0x00C0), (.conflict, 0x00C0)] := by decide +kernel

/-- The worked force of section 3.6: channel 7 is cut, and the pulse keeps channel 6. -/
theorem test_chanForce_cuts :
    let s := withCue (pulse (.inPulse 110 100 0x00C0 false)) (running 104)
    answer (exec (.chanForce (fr [0x00, 0x80, 0x00])) s) = some (.ok, [0x00, 0x80]) ∧
      ((got (exec (.chanForce (fr [0x00, 0x80, 0x00])) s)).cueAt 0).map Cue.wait = some (.inPulse 110 100 0x0040 false) ∧
      (got (exec (.chanForce (fr [0x00, 0x80, 0x00])) s)).cues.cut = 1 := by decide +kernel

/-- R86, R88, R89: the trailing edge of the last occurrence frees the slot. -/
theorem test_trailingEdge_frees :
    let t := got (exec (.trailingEdge 0) (withCue (pulse (.inPulse 110 100 0x00C0 false)) (running 110)))
    (t.chans[6]).level = .low ∧ t.cueAt 0 = none ∧ t.cues.due = [] := by decide +kernel

/-- The worked thaw of section 5.11 for cue R: two missed, three remaining, the late occurrence at 1348 standing for 1300. -/
theorem test_lateRule_example :
    let c := { pulse (.armed 1100 1100 true) with
      action := .toggle, width := 0, occurrences := 6, period := 100, remaining := 5, mask := 0x0020 }
    let r := lateRule 0 false (withCue c (running 1347))
    r.missed = 2 ∧ (r.state.cueAt 0).map Cue.wait = some (.armed 1348 1300 false) ∧
      (r.state.cueAt 0).map Cue.remaining = some 3 := by decide +kernel

/-! ## Edges and notices (chapters 6 and 7) -/

/-- The worked line of section 6.2: the third HIGH sample in a row is a rising edge, stamped with its tick. -/
theorem test_tick_edge :
    let l : Line := { length := 3, select := .either, filtered := .low, runValue := some true, runCount := 2 }
    let s := (running 105).setEdges { (running 105).edges with lines := (running 105).edges.lines.set 2 l }
    let t := got (exec (.tick { ip with ins := 0x04 }) s)
    (t.edges.lines[2]).filtered = .high ∧ t.edges.log.map (fun r => (r.line.val, r.rising, r.stamp)) = [(2, true, 106)] := by
  decide +kernel

/-- R115: EDGE.SETUP takes log selections 0 to 3 only (Table 6-1). -/
theorem test_edgeSetup : answer (exec (.edgeSetup (fr [2, 3, 4])) ready) = some (.param, []) ∧
    ((got (exec (.edgeSetup (fr [2, 3, 3])) ready)).edges.lines[2]).select = .either := by decide +kernel

/-- The worked full lane of section 7.11: the marker carries the dropped count and the lane is full again. -/
theorem test_noteNext_overflow :
    let n : Notice := { seq := 100, cls := .fired, handle := 0, tag := 0, stamp := 0, detail := 0 }
    let s := ready.setNotes { ready.notes with routine := [n], seq := 117, routineDropped := 4 }
    let t := got (exec (.noteNext (fr [0x00, 0x64])) s)
    t.notes.routine.map (fun x => (x.seq, x.cls, x.detail)) = [(117, NoticeClass.routineOverflow, 4)] ∧
      t.notes.routineDropped = 0 := by decide +kernel

/-! ## Warden and stand-in (chapters 8 and 9) -/

/-- The armed warden of section 8.10, at an elapsed time. -/
def armed (elapsed : Half) (closedPhase : Bool) (expected : Byte) (strikes : Nat) : State :=
  ready.setWard { ready.ward with
    tMin := 50, tMax := 200, threshold := 2, respHrst := true, armed := true, elapsed := elapsed, closedPhase := closedPhase
    expected := expected, strikes := strikes }

/-- Section 8.10 after 1030 and after 1060: a good beat, then an EARLY one with detail 0101h. -/
theorem test_wardBeat_good_early :
    answer (exec (.wardBeat (fr [0x01])) (armed 30 false 1 0)) = some (.ok, [0x02, 0x00, 0x1E]) ∧
    answer (exec (.wardBeat (fr [0x02])) (armed 30 true 2 0)) = some (.beat, []) ∧
    (got (exec (.wardBeat (fr [0x02])) (armed 30 true 2 0))).notes.urgent.map Notice.detail = [0x0101] := by decide +kernel

/-- Section 8.10 after 1120: WRONG_COUNT reaches the threshold: 0302h, stand-in entry, nHRST low. -/
theorem test_wardBeat_response :
    let t := got (exec (.wardBeat (fr [0x03])) (armed 60 true 2 1))
    t.notes.urgent.map (fun n => (n.cls, n.detail)) = [(NoticeClass.wardenFault, 0x0302), (.standinEnter, 0x0301)] ∧
      t.ward.strikes = 0 ∧ t.ward.hrst = 20 ∧ t.pins.nHrst = false ∧ t.stand.state = .safe := by decide +kernel

/-- Section 8.10, event 1320: the timeout at elapsed 200. -/
theorem test_wardenTimeout :
    let t := got (exec .wardenTimeout (armed 199 true 2 0))
    t.ward.elapsed = 0 ∧ t.ward.closedPhase = false ∧ t.ward.strikes = 1 ∧ t.ward.lastFault = .late := by decide +kernel

/-- Section 8.11, events 703 and 745: the third low sample enters stand-in, the third high one clears with detail 42. -/
theorem test_fsafe :
    let low := { ip with nFsafe := false }
    let a := ready.setWard { ready.ward with fsafeRun := 2 }
    let t := got (exec (.wardenMsEvent { xinEdge := false, takes := true, pins := low }) a)
    let b := ready.setWard { ready.ward with fsafeAsserted := true, fsafeRun := 2, fsafeDur := 41 }
    let u := got (exec (.wardenMsEvent { xinEdge := false, takes := true, pins := ip }) b)
    t.ward.fsafeAsserted = true ∧ t.stand.causes.code = 0x04 ∧ u.notes.urgent.map Notice.detail = [42] := by decide +kernel

/-- R172: a return is refused to an armed warden without a beat since the entry. -/
theorem test_standReturnConfirm_refused :
    let s := ((armed 60 false 2 0).setStand { ready.stand with state := .safe, causes := { Causes.none with command := true } })
    answer (exec (.standReturnConfirm (fr [])) (s.setPort { s.port with window := some { kind := .goBack, remaining := 3 } })) =
      some (.state, []) := by decide +kernel

/-- Section 9.7, tick 501: the two steps at offset 0, the channel that is not stand-in-owned ignored. -/
theorem test_standinStage :
    let x : Image :=
      { bank := .b, mode := .cycle, gen := 7, length := 4
        steps := [{ offset := 0, mask := 0x0100, kind := .high }, { offset := 0, mask := 0x0600, kind := .toggle },
          { offset := 2, mask := 0x0300, kind := .toggle }] }
    let s := (running 500).setStand { ready.stand with state := .run, causes := { Causes.none with warden := true }, active := some x }
    let s := s.setChans ((((s.chans.set 8 { Channel.reset with owned := true }).set 9
      { Channel.reset with owned := true, level := .high })).set 10 { Channel.reset with level := .high })
    let t := got (exec (.tick ip) s)
    (t.chans[8]).level = .high ∧ (t.chans[9]).level = .low ∧ (t.chans[10]).level = .high ∧ t.stand.pos = 1 := by decide +kernel

/-! ## The retained store (chapter 10) -/

/-- The worked CRC-16 of section 10.7. -/
theorem test_crc16_examples : crc16 [0x31] = 0xC782 ∧ crc16 [0x31, 0x32, 0x33, 0x34, 0x35, 0x36, 0x37, 0x38, 0x39] = 0x29B1 := by
  decide +kernel

/-- R179, R180: loaded bytes reach the buffer; an erased page reads FFh. -/
theorem test_storeLoad : (got (exec (.storeLoad (fr [0x3F, 0xAB])) ready)).store.buffer = [(63, 0xAB)] ∧
    answer (exec (.storeLoad (fr [0x3F, 0xAB, 0xCD])) ready) = some (.param, []) ∧
    answer (exec (.storeRead (fr [31, 62, 2])) ready) = some (.ok, [0xFF, 0xFF]) := by decide +kernel

/-- R182: a program that takes leaves its bytes and raises STORE_DONE with the page and 00h. -/
theorem test_storeProgramComplete :
    let s := ready.setStore { ready.store with engine := .programming 9 (0x12 :: List.replicate 63 0xFF) 1 }
    let t := got (exec (.storeProgramComplete true) s)
    t.store.pages = [(576, 0x12)] ∧ t.store.engine = .idle ∧ t.notes.routine.map Notice.detail = [0x0900] := by decide +kernel

/-- R184: a wipe goes on to its next page after five events, and ends with the lock set empty. -/
theorem test_wipe :
    let s := ready.setStore { ready.store with engine := .wiping 0 121 0, lockUser := true }
    let e := ready.setStore { ready.store with engine := .wiping 24 1 0, lockUser := true }
    (got (exec (.wipeStepComplete true) s)).store.engine = .wiping 1 120 0 ∧
      (got (exec .wipeComplete e)).store.lockUser = false := by decide +kernel

/-- R190, R191: slot 5 lies in page 25 at offset 16. -/
theorem test_slotBase : slotBase 5 = 64 * 25 + 16 := by decide

/-- The table gives no row any bits, so no word spells a command. -/
theorem test_decodeTableWord : decodeTableWord 8 0x00 = none := by decide

/-- A step runs the front of the queue and leaves the rest. -/
theorem test_step_queue :
    let s := (ready.setPending [.timeRun (fr []), .timeStop (fr [])])
    (got (step s)).time.running = true ∧ (got (step s)).pending = [.timeStop (fr [])] := by decide +kernel

/-! ## Witnesses: the premises of each statement with premises can be met -/

theorem witness_StatusCommandsReportTheirBlocks : Served (fr []) ready := ⟨⟨rfl, rfl, rfl⟩, rfl⟩

theorem witness_TimeCueAndSystemStatusReport : Served (fr []) (running 5) := ⟨⟨rfl, rfl, rfl⟩, rfl⟩

theorem witness_ChanReadReportsEveryChannel : Served (fr []) ready := ⟨⟨rfl, rfl, rfl⟩, rfl⟩

theorem witness_TimeCommandsSetTheTimebase : Served (fr [0x00, 0x00, 0x4E, 0x20]) ready := ⟨⟨rfl, rfl, rfl⟩, rfl⟩

theorem witness_CueAddCreatesACue : Served (fr exampleCue) (running 19000) := ⟨⟨rfl, rfl, rfl⟩, rfl⟩

theorem witness_CueAmendMovesTheFirstOccurrence : Served (fr [0x00, 0x00, 0x00, 0x00, 0x00, 0x6E]) (withCue (pulse (.armed 100 100 false)) (running 99)) := ⟨⟨rfl, rfl, rfl⟩, rfl⟩

theorem witness_CueCancelAndPurgeFreeSlots : Served (fr [0x00, 0x00, 0x01]) (withCue (pulse (.inPulse 110 100 0x00C0 false)) (running 104)) := ⟨⟨rfl, rfl, rfl⟩, rfl⟩

theorem witness_FreezeAndThaw : Served (fr []) (running 5) := ⟨⟨rfl, rfl, rfl⟩, rfl⟩

theorem witness_ChanSetupAndSeal : Served (fr [0x0F, 0x01, 0x02, 0x01]) ready := ⟨⟨rfl, rfl, rfl⟩, rfl⟩

theorem witness_ChanForceDrivesAndCuts : Served (fr [0x00, 0x80, 0x03]) (withCue (pulse (.inPulse 110 100 0x00C0 false)) (running 104)) := ⟨⟨rfl, rfl, rfl⟩, rfl⟩

theorem witness_EdgeCommandsSetAndDrainTheLog : Served (fr [0x07, 0x08, 0x03]) ready := ⟨⟨rfl, rfl, rfl⟩, rfl⟩

theorem witness_NoteCommandsReadAndRetire : Served (fr [0x07, 0xFE]) ready := ⟨⟨rfl, rfl, rfl⟩, rfl⟩

theorem witness_WardenSetupArmAndDisarm : Served (fr [0x00, 0x32, 0x00, 0xC8, 0x02, 0x03]) ready := ⟨⟨rfl, rfl, rfl⟩, rfl⟩

theorem witness_WardBeatIsJudged : Served (fr [0x01]) (armed 30 false 1 0) := ⟨⟨rfl, rfl, rfl⟩, rfl⟩

theorem witness_StandEnterEntersOrAddsItsCause : Served (fr []) ready := ⟨⟨rfl, rfl, rfl⟩, rfl⟩

theorem witness_StandReturnNeedsTheWardensConsent : Served (fr []) (armed 60 false 2 0) := ⟨⟨rfl, rfl, rfl⟩, rfl⟩

theorem witness_StoreOperationsStart : Served (fr [0x17]) ready := ⟨⟨rfl, rfl, rfl⟩, rfl⟩

/-- Both cases: a source of 800 periods a tick, the first and the last period before it; and a part in reset. -/
theorem witness_PeriodsOfTheActiveSourceMakeATick :
    (running 5).pending = [] ∧ (running 5).sys.phase = .ready ∧ (running 5).time.running = true ∧
    (running 5).time.divider < 8 * 10 ^ (running 5).time.rate.val ∧
    (0 < 1 ∧ (running 5).time.divider + 799 < 8 * 10 ^ (running 5).time.rate.val) ∧
    State.reset.pending = [] ∧ ¬(State.reset.sys.phase = .ready ∧ State.reset.time.running = true) := by decide +kernel

theorem witness_FramesDecodeToTheirCommands :
    ([true, true, true, true, true, true, true] : List Bool).length < 8 ∧
    (∀ c ∈ [{ nCs := true, mosi := true : SpiClock }], c.nCs = true) ∧
    (List.replicate 24 (0 : Byte)).length ≤ 24 ∧ (0x88, Instr.storeJournal) ∈ catalogue ∧ (fr [31]).params.length ≤ 24 ∧
    (fr [31]).fill = ([] : List Bool).length :=
  ⟨by decide, by decide, by decide, by simp [catalogue, storeRows], by decide, rfl⟩

/-- The first byte after the length byte and the check byte itself. -/
theorem witness_DamageToOneByteIsCaught :
    ([] : List Byte).length ≤ 24 ∧ (1 ≤ 1 ∧ 1 < 0 + 4 ∧ (0x02 : Byte) ≠ byteAt (encodeFrame 1 0 []) 1) ∧
    (1 ≤ 3 ∧ 3 < 0 + 4 ∧ (0xBF : Byte) ≠ byteAt (encodeFrame 1 0 []) 3) := by decide +kernel

/-- One byte short of the shortest and of the longest frame; an empty transaction. -/
theorem witness_AbortedAndRefusedTransactionsAreCounted :
    (ready.sys.phase = .ready ∧ ready.sys.softPending = false ∧ ready.port.ignoring = false) ∧ (received (tx [0x00, 1, 2])).length < clippedLength 0x00 ∧
    (received (tx (0xFF :: List.replicate 26 0))).length < clippedLength 0xFF ∧ received (tx [0x00]) ≠ [] ∧ received (tx []) = [] := by
  decide +kernel

/-- The length bytes 03h and 1Dh, next to the valid range. -/
theorem witness_LengthOutOfRangeIsAnsweredFormat :
    (ready.sys.phase = .ready ∧ ready.sys.softPending = false ∧ ready.port.ignoring = false) ∧
    ((0x03 : Byte).toNat < 4 ∧ clippedLength 0x03 ≤ (received (tx [0x03, 1, 2, 3])).length) ∧
    (28 < (0x1D : Byte).toNat ∧ clippedLength 0x1D ≤ (received (tx (0x1D :: List.replicate 27 0))).length) := by decide +kernel

theorem witness_WrongCheckByteIsAnsweredCheck :
    (ready.sys.phase = .ready ∧ ready.sys.softPending = false ∧ ready.port.ignoring = false) ∧ 4 ≤ (0x04 : Byte).toNat ∧ (0x04 : Byte).toNat ≤ 28 ∧
    (0x04 : Byte).toNat ≤ (received (tx [0x04, 0x01, 0x00, 0xBF])).length ∧
    byteAt (received (tx [0x04, 0x01, 0x00, 0xBF])) 3 ≠ crc8 ((received (tx [0x04, 0x01, 0x00, 0xBF])).take 3) := by decide +kernel

/-- A part that has executed a command with sequence byte 01h. -/
def answeredOnce : State := ready.setPort { ready.port with cache := some { seq := 1, status := .ok, payload := [7] } }

theorem witness_ReplayIsAnsweredFromTheCache :
    Serving answeredOnce ∧
    answeredOnce.port.cache = some { seq := 1, status := .ok, payload := [7] } ∧ (0x00, Instr.sysStatus) ∈ catalogue ∧
    (fr []).seq = 1 ∧ ready.port.cache = none :=
  ⟨⟨rfl, rfl, rfl⟩, rfl, by simp [catalogue, sysRows], rfl, rfl⟩

theorem witness_UnknownCodeIsAnsweredFormat :
    (ready.sys.phase = .ready ∧ ready.sys.softPending = false ∧ ready.port.ignoring = false) ∧ isReplay 1 ready = false ∧ ([] : List Byte).length ≤ 24 ∧
    (0x06 : Byte) ∉ knownCodes := by decide +kernel

/-- A part that waits for the rising edge of nCS. -/
def softWaiting : State := ready.setSys { ready.sys with softPending := true }

/-- A part whose port became ready while nCS was low. -/
def ignoringOne : State := ready.setPort { ready.port with ignoring := true }

/-- At the third clause, a transaction that was in progress and one that was not. -/
theorem witness_NothingIsServedBeforeThePortIsReady :
    State.reset.sys.phase ≠ .ready ∧ State.reset.sys.softPending = false ∧ (0x00, Instr.sysStatus) ∈ catalogue ∧
    (ignoringOne.sys.phase = .ready ∧ ignoringOne.sys.softPending = false ∧ ignoringOne.port.ignoring = true) ∧
    (fr []).fresh = true ∧ { fr [] with fresh := false }.fresh ≠ true ∧ softWaiting.sys.softPending = true :=
  ⟨by decide, rfl, by simp [catalogue, sysRows], ⟨rfl, rfl, rfl⟩, rfl, by decide, rfl⟩

/-- TIME.STOP of a STOPPED timebase is answered ERR_STATE. -/
theorem witness_FailedCommandsChangeNothing :
    (0x12, Instr.timeStop) ∈ catalogue ∧ Served (fr []) ready ∧ PinsShown ready ∧ ready.notes.raised = [] ∧
    exec (.timeStop (fr [])) ready = .next (got (exec (.timeStop (fr [])) ready)) ∧
    (got (exec (.timeStop (fr [])) ready)).port.cache = some { seq := 1, status := .state, payload := [] } :=
  ⟨by simp [catalogue, timeRows], ⟨⟨rfl, rfl, rfl⟩, rfl⟩, by unfold PinsShown; decide +kernel, rfl, rfl, by decide +kernel⟩

/-- A request, and a completion that needs a window and has none. -/
theorem witness_WindowsFollowRequestsAndCompletions :
    (0x83, Instr.storeOpen) ∈ catalogue ∧ Served (fr []) ready ∧
    exec (.storeOpen (fr [])) ready = .next (got (exec (.storeOpen (fr [])) ready)) ∧
    (got (exec (.storeOpen (fr [])) ready)).sys.phase = .ready ∧ (0x86, Instr.storeWipe) ∈ catalogue ∧
    windowNeededBy 0x86 = some .store ∧ ready.port.window.map Window.kind ≠ some .store :=
  ⟨by simp [catalogue, storeRows], ⟨⟨rfl, rfl, rfl⟩, rfl⟩, rfl, by decide +kernel, by simp [catalogue, storeRows], rfl, by decide⟩

/-- Each clause: 00h, 01h, the first value above, and no parameter. -/
theorem witness_SysCauseReadsAndClears :
    Served (fr [0x00]) ready ∧ Served (fr [0x01]) ready ∧ (Served (fr [0x02]) ready ∧ 1 < (0x02 : Byte).toNat) ∧
    (Served (fr []) ready ∧ (fr []).params.length ≠ 1) :=
  ⟨⟨⟨rfl, rfl, rfl⟩, rfl⟩, ⟨⟨rfl, rfl, rfl⟩, rfl⟩, ⟨⟨⟨rfl, rfl, rfl⟩, rfl⟩, by decide⟩, ⟨⟨rfl, rfl, rfl⟩, rfl⟩, by decide⟩

/-- A served request, and a soft reset that waits for nCS. -/
theorem witness_SoftResetWaitsForTheRisingEdge : Served (fr []) ready ∧ softWaiting.sys.softPending = true :=
  ⟨⟨⟨rfl, rfl, rfl⟩, rfl⟩, rfl⟩

/-- The worked cue of section 4.7 is acceptable and fresh. -/
theorem witness_CueRecordsDecodeTheirEncoding :
    ∃ c, parseCue exampleCue = some c ∧ c.acceptable ∧ c.fresh ∧ exampleCue.length = 20 :=
  ⟨(parseCue exampleCue).getD (pulse .hooked), by decide +kernel, by unfold Cue.acceptable; decide +kernel,
    by unfold Cue.fresh; exact ⟨by decide +kernel, by decide +kernel, by decide +kernel, by decide +kernel⟩, by decide⟩

/-- The worked cue R of section 5.11 at its thaw, under either policy; the same cue with three occurrences left, which run out; a
single occurrence; and an unlimited series. -/
theorem witness_LateRuleKeepsTheGrid : ∀ policy ∈ [LatePolicy.fire, .skip],
    let cue (occurrences remaining : Half) : Cue := { pulse (.armed 1100 1100 true) with
      action := .toggle, width := 0, occurrences := occurrences, period := 100, remaining := remaining, mask := 0x0020, late := policy }
    let passed (c : Cue) := (cutoffOf c 1347 - 1100).toNat / c.period.toNat
    (∀ c ∈ [cue 6 5, cue 6 3, cue 1 1, cue 0 0],
      (withCue c (running 1347)).cueAt 0 = some c ∧ c.wait = .armed 1100 1100 true) ∧
    ((cue 6 5).occurrences ≠ 1 ∧ 2 ≤ (cue 6 5).period.toNat ∧
      (cutoffOf (cue 6 5) 1347 - 1100).toNat + (cue 6 5).period.toNat < 2 ^ 32 ∧ passed (cue 6 5) + 1 < (cue 6 5).remaining.toNat) ∧
    ((cue 6 3).occurrences ≠ 0 ∧ 1 ≤ (cue 6 3).remaining.toNat ∧ (cue 6 3).remaining.toNat ≤ passed (cue 6 3) + 1) ∧
    ((cue 1 1).occurrences = 1 ∧ (cue 1 1).remaining = 1) ∧ (cue 0 0).occurrences = 0 := by
  decide +kernel

/-- A live cue; and the handles next to the bound. -/
theorem witness_HandlesNameLiveCues :
    (withCue (pulse (.armed 100 100 false)) ready).cueAt 0 = some (pulse (.armed 100 100 false)) ∧
    49152 ≤ (0xC000 : Half).toNat ∧ ¬49152 ≤ (0xBFFF : Half).toNat := by decide +kernel

/-- Two parameters, and one. -/
theorem witness_CueReadingCommandsReport :
    (Served (fr [0x00, 0x00]) ready ∧ (fr [0x00, 0x00]).params = [0x00, 0x00]) ∧ Served (fr [0x2F]) ready ∧
    (fr [0x2F]).params.length ≠ 2 ∧
    resolveHandle 0 (withCue (pulse (.armed 100 100 false)) ready) = .live 0 (pulse (.armed 100 100 false)) :=
  ⟨⟨⟨⟨rfl, rfl, rfl⟩, rfl⟩, rfl⟩, ⟨⟨rfl, rfl, rfl⟩, rfl⟩, by decide, by decide +kernel⟩

/-- A class that is not sticky, and each sticky class; an event that raised nothing, and one that raised a notice. -/
theorem witness_NoticesEnterTheirLanes :
    let one : Raised := { cls := .fired, handle := 0, tag := 0, stamp := 0, detail := 0 }
    NoticeClass.fired ∉ [NoticeClass.conflict, .edgesLost, .journalLoss] ∧
    (∀ c ∈ [NoticeClass.conflict, .edgesLost, .journalLoss], ({ one with cls := c } : Raised).cls = c) ∧
    ready.notes.raised = [] ∧ (raise .fired 0 0 0 ready).notes.raised = [] ++ [one] := by decide +kernel

/-- Each clause at a boundary: offset 63 with one byte and with two, no data, 17 data bytes, no parameter. -/
theorem witness_StoreBufferAndRead :
    MemoriesCanonical ready ∧ Served (fr [0x3F, 0xAB]) ready ∧ ¬(63 < (0x3F : Byte).toNat ∨ 64 < (0x3F : Byte).toNat + 1) ∧
    (63 < (0x3F : Byte).toNat ∨ 64 < (0x3F : Byte).toNat + 2) ∧ (fr [0x3F]).params.length < 2 ∧
    17 < (fr (List.replicate 18 0)).params.length ∧ Served (fr []) ready ∧ Served (fr [31, 62, 2]) ready :=
  ⟨⟨by decide, by decide⟩, ⟨⟨rfl, rfl, rfl⟩, rfl⟩, by decide, by decide, by decide, by decide, ⟨⟨rfl, rfl, rfl⟩, rfl⟩, ⟨⟨rfl, rfl, rfl⟩, rfl⟩⟩

theorem witness_StoreJournalReadsFromTheNewest : (Served (fr [0x1F]) ready ∧ (fr [0x1F]).params = [0x1F]) ∧
    (Served (fr [1, 2]) ready ∧ (fr [1, 2]).params.length ≠ 1) :=
  ⟨⟨⟨⟨rfl, rfl, rfl⟩, rfl⟩, rfl⟩, ⟨⟨rfl, rfl, rfl⟩, rfl⟩, by decide⟩

/-- The tick goes on; and a soft reset that waits meets nCS high. -/
theorem witness_TicksRunTheirStagesInOrder :
    (softWaiting.sys.softPending = true ∧ ({ ip with nCs := true } : InPins).nCs = true) ∧
    ¬((running 5).sys.softPending = true ∧ ip.nCs = true) := by decide

theorem witness_TicksLeaveTheOtherBlocksAlone :
    Ticking (running 5) ∧ (running 5).sys.softPending = false ∧ (running 5).notes.raised = [] ∧
    exec (.tick ip) (running 5) = .next (got (exec (.tick ip) (running 5))) := ⟨⟨rfl, rfl⟩, rfl, rfl, rfl⟩

theorem witness_EveryTickSamplesEveryLine :
    Ticking (running 7) ∧ (running 7).sys.softPending = false ∧
    exec (.tick { ip with ins := 0x81 }) (running 7) = .next (got (exec (.tick { ip with ins := 0x81 }) (running 7))) :=
  ⟨⟨rfl, rfl⟩, rfl, rfl⟩

theorem witness_WardenMillisecondsRunTheirSteps :
    (softWaiting.sys.softPending = true ∧ ({ ip with nCs := true } : InPins).nCs = true) ∧
    ¬(ready.sys.softPending = true ∧ ip.nCs = true) := by decide

/-- One state for each clause: the last event of a program, an append, an erase and a wipe, and an event before the last; and an
event that began with an IDLE engine. -/
theorem witness_StoreOperationsComplete :
    ∀ e ∈ [Engine.programming 0 (List.replicate 64 0xFF) 1, .appending 31 (List.replicate 16 0) 1, .wiping 23 6 0,
        .wiping 24 1 0, .programming 31 (List.replicate 64 0) 2, .appending 0 (List.replicate 16 0) 2, .wiping 0 122 0,
        .wiping 24 2 0],
      let s := ready.setStore { ready.store with engine := e }
      s.sys.phase = .ready ∧ Memory.wf s.store.pages ∧ Memory.wf s.store.buffer ∧ s.store.engine = e ∧ JournalSound s := by
  unfold JournalSound
  decide +kernel

theorem witness_ResetsKeepTheStoreLocksAndCauses :
    MemoriesCanonical (ready.setStore { ready.store with
      pages := [(1536, 0x00), (1537, 0x01)], engine := .appending 1 (List.replicate 16 0x00) 3 }) :=
  ⟨by decide, by decide⟩

/-- The defaults as a record, with the byte at an offset changed and the CRC made right. -/
def recordWith (i : Nat) (b : Byte) : List Byte :=
  let body := ((configBytes ConfigRecord.defaults).take 62).set i b
  body ++ be16 (crc16 body)

/-- The longest cycle with a step in its last tick. -/
def lastTickImage : Image :=
  { bank := .a, mode := .once, gen := 65535, length := 16777215, steps := [{ offset := 16777214, mask := 0x8001, kind := .flt }] }

/-- The defaults as a record; a page that is no record; an image of one step, and its bank. -/
theorem witness_StoredFormatsDecodeTheirEncodings :
    ConfigRecord.defaults.storable ∧ classRecord (recordWith 0 0x01) = .valid ConfigRecord.defaults ∧
    (List.replicate 64 (0x00 : Byte) ≠ List.replicate 64 0xFF ∧
      crc16 ((List.replicate 64 (0x00 : Byte)).take 62) ≠ halfAt (List.replicate 64 0x00) 62) ∧
    lastTickImage.storable ∧
    (imageBytes lastTickImage ++ List.replicate 240 0xFF).length = 256 ∧
    parseImage .a (imageBytes lastTickImage ++ List.replicate 240 0xFF) = some lastTickImage :=
  ⟨by unfold ConfigRecord.storable; decide +kernel, by decide +kernel, by decide +kernel,
    by unfold Image.storable; decide +kernel, by decide +kernel, by decide +kernel⟩

/-- The same statement: a format byte that is not 01h; a field that fails first, at either end of the fields; and none. -/
theorem witness_StoredFormatsDecodeTheirEncodings_bad :
    (∀ p ∈ [recordWith 0 0x00, recordWith 1 0x40, recordWith 61 0x01, recordWith 0 0x01],
      p.length = 64 ∧ p ≠ List.replicate 64 0xFF ∧ crc16 (p.take 62) = halfAt p 62) ∧
    byteAt (recordWith 0 0x00) 0 ≠ 0x01 ∧
    (byteAt (recordWith 1 0x40) 0 = 0x01 ∧ FieldFails (recordWith 1 0x40) 1 ∧
      ∀ j : Nat, j < 1 → ¬FieldFails (recordWith 1 0x40) j) ∧
    (byteAt (recordWith 61 0x01) 0 = 0x01 ∧ FieldFails (recordWith 61 0x01) 61 ∧
      ∀ j : Nat, j < 61 → ¬FieldFails (recordWith 61 0x01) j) ∧
    byteAt (recordWith 0 0x01) 0 = 0x01 ∧ ∀ i : Nat, ¬FieldFails (recordWith 0 0x01) i := by
  unfold FieldFails
  dsimp only
  refine ⟨by decide +kernel, by decide +kernel, ⟨by decide +kernel, by decide +kernel, by decide +kernel⟩,
    ⟨by decide +kernel, by decide +kernel, by decide +kernel⟩, by decide +kernel, fun i => ?_⟩
  by_cases h : i < 62
  · revert i
    decide +kernel
  · omega

/-- A running part with a pulse and a command in its queue has every invariant, and its step goes on. -/
def sound : State :=
  showPins ((withCue (pulse (.inPulse 110 100 0x0040 false))
    ((running 104).setChans (ready.chans.set 6 { Channel.reset with level := .high }))).setPending [.timeRead (fr [])])

theorem witness_StoreLanesAndPinsStaySound :
    MemoriesCanonical sound ∧ JournalSound sound ∧ LanesSound sound ∧ PinsShown sound ∧ step sound = .next (got (step sound)) :=
  ⟨⟨by decide, by decide⟩, by unfold JournalSound; decide +kernel, by unfold LanesSound; decide +kernel,
    by unfold PinsShown; decide +kernel, rfl⟩

/-- The one cue of that part. -/
theorem sound_cue {n : Fin 48} {c : Cue} (h : sound.cueAt n = some c) :
    n = 0 ∧ c = pulse (.inPulse 110 100 0x0040 false) := by
  have a : ∀ n, sound.cueAt n = none ∨ n = 0 := by decide +kernel
  have b : sound.cueAt 0 = some (pulse (.inPulse 110 100 0x0040 false)) := by decide +kernel
  rcases a n with e | e
  · simp [e] at h
  · subst e
    simp only [b, Option.some.injEq] at h
    exact ⟨rfl, h.symm⟩

/-- The slots of the ARMED and IN_PULSE cues. -/
theorem listed_iff (s : State) (n : Fin 48) :
    Listed s n ↔ (match s.cueAt n with | none => false | some c => c.key.isSome) = true := by
  unfold Listed
  cases s.cueAt n <;> simp

/-- The placement of the second cue behind the first. -/
theorem witness_TrailingEdgesCompletePulses :
    let c := { pulse (.armed 100 100 false) with action := .driveLow, width := 0 }
    twoCues.cueAt 1 = some c ∧ c.key.isSome = true ∧ c.overdue = false ∧
    (∀ m ∈ twoCues.cues.due.filter fun m => m != 1, Listed twoCues m) ∧
    (twoCues.cues.due.filter fun m => m != 1).Pairwise (StandsBefore twoCues) := by
  refine ⟨by decide +kernel, rfl, rfl, fun m h => ?_, ?_⟩
  · rw [listed_iff]
    revert m
    decide +kernel
  · rw [show (twoCues.cues.due.filter fun m => m != 1) = [0] by decide +kernel]
    exact List.pairwise_singleton _ _

theorem witness_ConflictsCompareResultingLevels : DueListSound twoCues := by
  refine ⟨by decide +kernel, fun n => ?_⟩
  rw [listed_iff]
  revert n
  decide +kernel

theorem witness_DueListHoldsTheWaitingCues :
    DueListSound sound ∧ RemainingSound sound ∧ step sound = .next (got (step sound)) := by
  refine ⟨⟨by decide +kernel, fun n => ?_⟩, fun n c h => ?_, rfl⟩
  · rw [listed_iff]
    revert n
    decide +kernel
  · obtain ⟨rfl, rfl⟩ := sound_cue h
    decide

theorem witness_PulsesHoldTheirChannels :
    (TableEmptyInReset sound ∧ PulsesSound sound ∧ TrailingMasksHostOwned sound) ∧
      step sound = .next (got (step sound)) := by
  refine ⟨⟨fun h => ?_, ⟨fun n m c d hnm hc hd => ?_, fun n c i hc => ?_⟩, fun n c hc => ?_⟩, rfl⟩
  · exact absurd h (by decide)
  · obtain ⟨rfl, -⟩ := sound_cue hc
    obtain ⟨rfl, -⟩ := sound_cue hd
    exact absurd rfl hnm
  · obtain ⟨rfl, rfl⟩ := sound_cue hc
    revert i
    decide +kernel
  · obtain ⟨rfl, rfl⟩ := sound_cue hc
    decide +kernel

theorem witness_BlocksStayInTheirRanges :
    StandSound sound ∧ WardenSound sound ∧ RangesSound sound ∧ IgnoringSound sound ∧ step sound = .next (got (step sound)) := by
  refine ⟨⟨fun h => absurd h (by decide), fun x h => absurd (show none = some x from h) (by simp), ?_⟩, ?_, ⟨fun w h => ?_, ?_⟩,
    fun h => absurd h (by decide), rfl⟩
  · exact ⟨rfl, rfl, rfl⟩
  · unfold WardenSound
    decide +kernel
  · exact absurd (show none = some w from h) (by simp)
  · decide +kernel

end Sys2Proof.Tests
end

section
/-! PROOFS. The queue of waiting events. -/

open Sys2Proof Sys2Proof.Machine

namespace Sys2Proof.TimebaseAndTicks

/-! ## The queue (R39) -/

/-- R39: the classes in the order in which they are served. -/
def classOrder : List EventClass := [.reset, .powerUp, .wardenMs, .tick, .command]

/-- R39: some events in the order in which they wait: class after class, each class in the order of its arrival. -/
def waiting (events : List Instr) : List Instr :=
  classOrder.flatMap fun k => events.filter fun c => eventClass c == k

/-- Each class has its place: the classes before it are served earlier, those after it later. -/
theorem classOrder_split (k : EventClass) :
    ∃ before after, classOrder = before ++ k :: after ∧
      (∀ j ∈ before, j.rank < k.rank) ∧ ∀ j ∈ after, k.rank < j.rank := by
  cases k
  case reset => exact ⟨[], [.powerUp, .wardenMs, .tick, .command], rfl, by decide, by decide⟩
  case powerUp => exact ⟨[.reset], [.wardenMs, .tick, .command], rfl, by decide, by decide⟩
  case wardenMs => exact ⟨[.reset, .powerUp], [.tick, .command], rfl, by decide, by decide⟩
  case tick => exact ⟨[.reset, .powerUp, .wardenMs], [.command], rfl, by decide, by decide⟩
  case command => exact ⟨[.reset, .powerUp, .wardenMs, .tick], [], rfl, by decide, by decide⟩

/-- An event joins the queue between the events that go first and those that do not. -/
theorem enqueue_append (c : Instr) (first later : List Instr)
    (hf : ∀ d ∈ first, (eventClass d).rank ≤ (eventClass c).rank)
    (hl : ∀ d ∈ later, (eventClass c).rank < (eventClass d).rank) :
    enqueue c (first ++ later) = first ++ c :: later := by
  have hp : ∀ d ∈ first, decide ((eventClass d).rank ≤ (eventClass c).rank) = true := fun d h => decide_eq_true (hf d h)
  rw [enqueue, List.takeWhile_append_of_pos hp, List.dropWhile_append_of_pos hp]
  cases later with
  | nil => simp
  | cons d rest =>
    have hd : ¬(eventClass d).rank ≤ (eventClass c).rank := Nat.not_le.2 (hl d (by simp))
    simp [hd]

/-- The events of some classes are those of their class. -/
theorem mem_classes {ks : List EventClass} {events : List Instr} {d : Instr}
    (h : d ∈ ks.flatMap fun k => events.filter fun c => eventClass c == k) : eventClass d ∈ ks := by
  obtain ⟨k, hk, hd⟩ := List.mem_flatMap.1 h
  have e : eventClass d = k := by simpa using (List.mem_filter.1 hd).2
  exact e ▸ hk

/-- A later event changes nothing among the classes to which it does not belong. -/
theorem classes_append_of_notMem {ks : List EventClass} {c : Instr} (h : eventClass c ∉ ks) (events : List Instr) :
    (ks.flatMap fun k => (events ++ [c]).filter fun d => eventClass d == k) =
      ks.flatMap fun k => events.filter fun d => eventClass d == k := by
  refine List.flatMap_congr fun k hk => ?_
  have : ¬eventClass c = k := fun e => h (e ▸ hk)
  simp [this]

/-- R39: an event that becomes pending behind some others takes its place among them. -/
theorem enqueue_waiting (c : Instr) (events : List Instr) : enqueue c (waiting events) = waiting (events ++ [c]) := by
  obtain ⟨before, after, order, earlier, later⟩ := classOrder_split (eventClass c)
  have notBefore : eventClass c ∉ before := fun h => Nat.lt_irrefl _ (earlier _ h)
  have notAfter : eventClass c ∉ after := fun h => Nat.lt_irrefl _ (later _ h)
  simp only [waiting, order, List.flatMap_append, List.flatMap_cons, classes_append_of_notMem notBefore,
    classes_append_of_notMem notAfter]
  rw [← List.append_assoc, enqueue_append]
  · simp
  · intro d hd
    rcases List.mem_append.1 hd with hd | hd
    · exact (earlier _ (mem_classes hd)).le
    · have e : eventClass d = eventClass c := by simpa using (List.mem_filter.1 hd).2
      exact e.symm ▸ le_rfl
  · exact fun d hd => later _ (mem_classes hd)

/-- R39: the queue after some events have become pending, one after another. -/
theorem foldl_arrive (events : List Instr) (s : State) :
    events.foldl (fun u c => arrive c u) (s.setPending []) = s.setPending (waiting events) := by
  induction events using List.reverseRecOn with
  | nil => rfl
  | append_singleton events c ih =>
    rw [List.foldl_append, ih, List.foldl_cons, List.foldl_nil, arrive, ← enqueue_waiting]
    rfl

/-- Settles O1: the front command runs on the rest of the queue, and the queue of `arrive` is the order of R39. -/
theorem stepRunsTheFrontCommand : Obligations.StepRunsTheFrontCommand := by
  unfold Obligations.StepRunsTheFrontCommand
  exact ⟨fun _ _ _ => rfl, foldl_arrive⟩

end Sys2Proof.TimebaseAndTicks
end

section
/-! PROOFS. The periods of the active source. -/

open Sys2Proof Sys2Proof.Machine

namespace Sys2Proof.TimebaseAndTicks

/-! ## Periods of the active source (R27, R30, R33) -/

/-- R27: whether the XIN detector has seen an edge after a period of the active source. -/
def seenAfter (s : State) : Bool := s.time.xinSeen || s.time.active == .external

/-- R27, R30: the state after some periods that have brought the divider to a count. -/
def countedTo (d : Nat) (s : State) : State := s.setTime { s.time with divider := d, xinSeen := seenAfter s }

theorem countedTo_countedTo (d e : Nat) (s : State) : countedTo e (countedTo d s) = countedTo e s := by
  simp [countedTo, seenAfter]

theorem countedTo_divider (d : Nat) (s : State) : (countedTo d s).time.divider = d := rfl
theorem countedTo_rate (d : Nat) (s : State) : (countedTo d s).time.rate = s.time.rate := rfl

theorem step_of_empty (s : State) (h : s.pending = []) : step s = .next (sourcePeriod s) := by simp [step, h]

theorem ticking_iff (s : State) : ticking s = true ↔ Ticking s := by simp [ticking, Ticking]

/-- R27: a period leaves the detector as `seenAfter` says, except while a reset is in effect. -/
theorem seePeriod_eq (s : State) :
    seePeriod s = if s.sys.phase = .inReset then s else s.setTime { s.time with xinSeen := seenAfter s } := by
  by_cases hr : s.sys.phase = .inReset
  · simp [seePeriod, hr]
  · cases ha : s.time.active
    case external => simp [seePeriod, seenAfter, ha, hr]
    case internal =>
      have old : seenAfter s = s.time.xinSeen := by simp [seenAfter, ha]
      rw [seePeriod, if_neg (by simp [ha]), if_neg hr, old]
      rfl

/-- R30: while ticks are processed, a period short of the count of the rate advances the divider. -/
theorem sourcePeriod_counts (s : State) (run : Ticking s) (h : s.time.divider + 1 < periodsPerTick s.time.rate) :
    sourcePeriod s = countedTo (s.time.divider + 1) s := by
  obtain ⟨phase, running⟩ := run
  simp [countedTo, sourcePeriod, seePeriod_eq, dividePeriod, ticking, phase, running, h]

/-- R30: the period that reaches the count of the rate restarts the divider and puts a tick on the empty queue. -/
theorem sourcePeriod_completes (s : State) (run : Ticking s) (empty : s.pending = [])
    (h : s.time.divider + 1 = periodsPerTick s.time.rate) :
    sourcePeriod s = (countedTo 0 s).setPending [.tick s.pins.inputs] := by
  obtain ⟨phase, running⟩ := run
  simp [countedTo, sourcePeriod, seePeriod_eq, dividePeriod, ticking, phase, running, h, arrive, enqueue, empty]

/-- R33: while no tick is processed, the divider stays. -/
theorem sourcePeriod_idle (s : State) (idle : ¬Ticking s) : sourcePeriod s = seePeriod s := by
  have h : ticking (seePeriod s) = false := by
    rw [← Bool.not_eq_true, ticking_iff, seePeriod_eq]
    split
    · exact idle
    · exact idle
  simp [sourcePeriod, dividePeriod, h]

/-- What the XIN detector has seen, it has seen. -/
theorem seePeriod_seePeriod (s : State) : seePeriod (seePeriod s) = seePeriod s := by
  by_cases h : s.time.active = .external ∧ s.sys.phase ≠ .inReset
  · simp [seePeriod, h]
  · simp only [seePeriod, if_neg h]

/-- R30: some periods that stay short of the count of the rate. -/
theorem stepTimes_counts (k : Nat) (s : State) (run : Ticking s) (empty : s.pending = [])
    (h : s.time.divider + (k + 1) < periodsPerTick s.time.rate) :
    stepTimes (k + 1) s = some (countedTo (s.time.divider + (k + 1)) s) := by
  induction k generalizing s with
  | zero => simp [stepTimes, step_of_empty s empty, sourcePeriod_counts s run h]
  | succ k ih =>
    rw [stepTimes, step_of_empty s empty, sourcePeriod_counts s run (by omega)]
    have later := ih (countedTo (s.time.divider + 1) s) run empty (by rw [countedTo_divider, countedTo_rate]; omega)
    rw [countedTo_divider, countedTo_countedTo, Nat.add_assoc, Nat.add_comm 1] at later
    exact later

/-- R30: the periods up to the count of the rate put one tick on the empty queue. -/
theorem stepTimes_completes (k : Nat) (s : State) (run : Ticking s) (empty : s.pending = [])
    (h : s.time.divider + (k + 1) = periodsPerTick s.time.rate) :
    stepTimes (k + 1) s = some ((countedTo 0 s).setPending [.tick s.pins.inputs]) := by
  induction k generalizing s with
  | zero => simp [stepTimes, step_of_empty s empty, sourcePeriod_completes s run empty h]
  | succ k ih =>
    rw [stepTimes, step_of_empty s empty, sourcePeriod_counts s run (by omega)]
    have later := ih (countedTo (s.time.divider + 1) s) run empty (by rw [countedTo_divider, countedTo_rate]; omega)
    rw [countedTo_countedTo] at later
    exact later

/-- R27, R33: some periods while no tick is processed. -/
theorem stepTimes_idle (k : Nat) (s : State) (idle : ¬Ticking s) (empty : s.pending = []) :
    stepTimes (k + 1) s = some (seePeriod s) := by
  have stays : ¬Ticking (seePeriod s) ∧ (seePeriod s).pending = [] := by
    rw [seePeriod_eq]
    split
    · exact ⟨idle, empty⟩
    · exact ⟨idle, empty⟩
  rw [stepTimes, step_of_empty s empty, sourcePeriod_idle s idle]
  dsimp only
  induction k with
  | zero => rfl
  | succ k ih =>
    rw [stepTimes, step_of_empty _ stays.2, sourcePeriod_idle _ stays.1, seePeriod_seePeriod]
    exact ih

/-- Settles O2, by induction on the number of periods. -/
theorem periodsOfTheActiveSourceMakeATick : Obligations.PeriodsOfTheActiveSourceMakeATick := by
  unfold Obligations.PeriodsOfTheActiveSourceMakeATick
  intro s empty
  refine ⟨fun run start => ⟨fun k hk h => ?_, ?_⟩, fun idle k hk => ?_⟩
  · obtain ⟨j, rfl⟩ := Nat.exists_eq_add_of_lt hk
    rw [Nat.zero_add] at h ⊢
    exact stepTimes_counts j s run empty h
  · obtain ⟨j, hj⟩ := Nat.exists_eq_add_of_lt start
    rw [show 8 * 10 ^ s.time.rate.val - s.time.divider = j + 1 by omega]
    exact stepTimes_completes j s run empty (by rw [periodsPerTick]; omega)
  · obtain ⟨j, rfl⟩ := Nat.exists_eq_add_of_lt hk
    rw [Nat.zero_add, stepTimes_idle j s idle empty, seePeriod_eq]
    rfl

end Sys2Proof.TimebaseAndTicks
end

section
/-! PROOFS. The commands of group TIME and the three reports. -/

open Sys2Proof Sys2Proof.Machine

namespace Sys2Proof.TimebaseAndTicks

/-! ## Executed commands (R12, R17) -/

/-- No soft reset waits while a command is executed. -/
theorem served_softPending {f : Frame} {s : State} (h : Served f s) : (met f.pins s).sys.softPending = false := by
  obtain ⟨⟨-, soft, -⟩, -⟩ := h
  exact soft

/-- R12: an executed command that its block answers OK, and that opens no window. -/
theorem serveCommand_done {body : List Byte → State → Reply} {f : Frame} {s u : State} {payload : List Byte}
    (h : Served f s) (reply : body f.params (met f.pins s) = done payload u) (soft : u.sys.softPending = false)
    (inputs : u.pins.inputs = f.pins) : serveCommand (plain body) f s = granted f payload u := by
  have e : (plain body).body f.params (met f.pins s) = done payload u := reply
  rw [serveCommand_served _ f s h (by rw [e]; exact soft) (by rw [e]; exact inputs), e]
  rfl

/-- R17: an executed command that its block refuses. -/
theorem serveCommand_fail {body : List Byte → State → Reply} {f : Frame} {s : State} {st : Status}
    (h : Served f s) (reply : body f.params (met f.pins s) = fail st (met f.pins s)) (hst : st ≠ .ok) :
    serveCommand (plain body) f s = refusedWith f st s := by
  have e : (plain body).body f.params (met f.pins s) = fail st (met f.pins s) := reply
  rw [serveCommand_served _ f s h (by rw [e]; exact served_softPending h) (by rw [e]; rfl), e]
  simp [fail, hst, refusedWith]

/-- A reading command, by what its block answers without parameters and with some. -/
theorem reads_of_body {body : List Byte → State → Reply} {row : Frame → Instr} {f : Frame} {s : State}
    {payload : List Byte} (h : Served f s) (meaning : exec (row f) s = .next (serveCommand (plain body) f s))
    (none : body [] (met f.pins s) = done payload (met f.pins s))
    (some : ∀ b l, body (b :: l) (met f.pins s) = fail .format (met f.pins s)) : Reads row f s payload := by
  rw [Reads, meaning]
  cases hp : f.params with
  | nil => rw [if_pos rfl, serveCommand_done (u := met f.pins s) h (by rw [hp]; exact none) (served_softPending h) rfl]
  | cons b l => rw [if_neg (by simp), serveCommand_fail h (by rw [hp]; exact some b l) (by decide)]

/-! ## TIME.READ, CUE.STATUS and SYS.STATUS (R31, R83, R203) -/

/-- Two bits as a byte, bit 1 first. -/
theorem packBits_two (b1 b0 : Bool) : Bits (packBits [b1, b0]) [b0, b1] := by
  cases b1 <;> cases b0 <;> unfold Bits <;> decide

/-- R196: the bits of a set of reset kinds. -/
theorem resetSet_bits (r : ResetSet) : Bits r.code [r.powerOn, r.brownout, r.pin, r.soft] := by
  obtain ⟨a, b, c, d⟩ := r
  cases a <;> cases b <;> cases c <;> cases d <;> unfold Bits <;> decide

theorem countWait_eq (code : Byte) (s : State) : countWait code s = slotsIn code s := by
  unfold countWait slotsIn
  congr 1
  funext n
  cases s.cueAt n <;> rfl

theorem wardenCode_eq (w : Warden) : wardenCode w = wardenState w := by
  unfold wardenCode wardenState
  cases w.armed <;> cases w.closedPhase <;> simp

theorem cmdSysStatus_nil (s : State) :
    cmdSysStatus [] s = done (be16 s.port.errors ++
      [s.sys.causes.code, s.stand.state.code, wardenState s.ward, s.store.engine.code, byteB s.time.running,
        s.sys.outcome.code,
        match s.port.window with | none => 0x00 | some w => w.kind.code,
        match s.port.window with | none => 0x00 | some w => byteN w.remaining,
        byteN ((List.finRange 48).countP fun n => (s.cueAt n).isNone)]) s := by
  rw [← wardenCode_eq]
  cases h : s.port.window <;> simp [cmdSysStatus, h, freeSlots]

/-- Settles O14: each of the three reports is its command's reply on the state that the frame met. -/
theorem timeCueAndSystemStatusReport : Obligations.TimeCueAndSystemStatusReport := by
  unfold Obligations.TimeCueAndSystemStatusReport
  intro f s h
  refine ⟨⟨_, packBits_two s.time.refOld s.time.refNew, ?_⟩, ?_, ⟨_, resetSet_bits s.sys.causes, ?_⟩⟩
  · exact reads_of_body (body := cmdTimeRead) h rfl rfl fun _ _ => rfl
  · refine reads_of_body (body := cmdCueStatus) h rfl ?_ fun _ _ => rfl
    simp only [cmdCueStatus, countWait_eq]
    rfl
  · exact reads_of_body (body := cmdSysStatus) h rfl (cmdSysStatus_nil _) fun _ _ => rfl

/-! ## TIME.RUN, TIME.STOP, TIME.SET, TIME.RATE and TIME.RESTORE (R29, R30, R33 to R35) -/

section
variable {f : Frame} {s : State} (h : Served f s)
include h

/-- A command of group TIME that is answered OK sets nothing but the timebase. -/
theorem serveCommand_setsTime {body : List Byte → State → Reply} {x : Timebase}
    (reply : body f.params (met f.pins s) = done [] ((met f.pins s).setTime x)) :
    serveCommand (plain body) f s = granted f [] ((met f.pins s).setTime x) :=
  serveCommand_done h reply (served_softPending h) rfl

/-- R33. -/
theorem timeRun_served :
    serveCommand (plain cmdTimeRun) f s =
      if f.params ≠ [] then refusedWith f .format s
      else if s.time.running = true then refusedWith f .state s
      else granted f [] ((met f.pins s).setTime { s.time with running := true, divider := 0 }) := by
  have running : (met f.pins s).time = s.time := rfl
  cases hp : f.params with
  | cons b l => exact serveCommand_fail h (by rw [hp]; rfl) (by decide)
  | nil =>
    rw [if_neg (by simp)]
    split
    next hr => exact serveCommand_fail h (by rw [hp, cmdTimeRun, running, if_pos hr]) (by decide)
    next hr => exact serveCommand_setsTime h (by rw [hp, cmdTimeRun, running, if_neg hr])

/-- R34. -/
theorem timeStop_served :
    serveCommand (plain cmdTimeStop) f s =
      if f.params ≠ [] then refusedWith f .format s
      else if s.time.running = false ∨ s.stand.state ≠ .host then refusedWith f .state s
      else granted f [] ((met f.pins s).setTime { s.time with running := false, divider := 0 }) := by
  have time : (met f.pins s).time = s.time := rfl
  have stand : (met f.pins s).stand = s.stand := rfl
  cases hp : f.params with
  | cons b l => exact serveCommand_fail h (by rw [hp]; rfl) (by decide)
  | nil =>
    rw [if_neg (by simp)]
    split
    next refused =>
      refine serveCommand_fail h ?_ (by decide)
      rcases refused with hr | hs
      · simp [hp, cmdTimeStop, time, hr]
      · simp [hp, cmdTimeStop, time, stand, hs]
    next ok =>
      obtain ⟨hr, hs⟩ := not_or.1 ok
      exact serveCommand_setsTime h (by simp [hp, cmdTimeStop, time, stand, hr, not_not.1 hs])

/-- R35. -/
theorem timeSet_served :
    serveCommand (plain cmdTimeSet) f s =
      match f.params with
      | [a, b, c, d] =>
        if s.time.running = true ∨ s.cues.due ≠ [] then refusedWith f .state s
        else granted f [] ((met f.pins s).setTime { s.time with tick := a ++ b ++ c ++ d })
      | _ => refusedWith f .format s := by
  have time : (met f.pins s).time = s.time := rfl
  have cues : (met f.pins s).cues = s.cues := rfl
  split
  next a b c d hp =>
    split
    next refused =>
      refine serveCommand_fail h ?_ (by decide)
      rcases refused with hr | hd
      · simp [hp, cmdTimeSet, time, hr]
      · simp [hp, cmdTimeSet, cues, hd]
    next ok =>
      obtain ⟨hr, hd⟩ := not_or.1 ok
      exact serveCommand_setsTime h (by simp [hp, cmdTimeSet, time, cues, hr, not_not.1 hd, wordAt, byteAt])
  next other =>
    have len : f.params.length ≠ 4 := fun e => by
      obtain ⟨a, b, c, d, hp⟩ := List.length_eq_four.1 e
      exact other a b c d hp
    exact serveCommand_fail h (by simp [cmdTimeSet, len]) (by decide)

/-- R30. -/
theorem timeRate_served :
    serveCommand (plain cmdTimeRate) f s =
      match f.params with
      | [b] =>
        if h : b.toNat < 4 then
          if s.time.running = true then refusedWith f .state s
          else granted f [] ((met f.pins s).setTime { s.time with rate := ⟨b.toNat, h⟩ })
        else refusedWith f .param s
      | _ => refusedWith f .format s := by
  have running : (met f.pins s).time = s.time := rfl
  split
  next b hp =>
    split
    next small =>
      have low : ¬3 < b.toNat := by omega
      have rate : Fin.ofNat 4 b.toNat = ⟨b.toNat, small⟩ := Fin.ext (Nat.mod_eq_of_lt small)
      split
      next hr => exact serveCommand_fail h (by rw [hp, cmdTimeRate, if_neg low, running, if_pos hr]) (by decide)
      next hr => exact serveCommand_setsTime h (by rw [hp, cmdTimeRate, if_neg low, running, if_neg hr, rate])
    next large =>
      have high : 3 < b.toNat := by omega
      exact serveCommand_fail h (by simp [hp, cmdTimeRate, high]) (by decide)
  next other =>
    refine serveCommand_fail h ?_ (by decide)
    unfold cmdTimeRate
    split
    next b hp => exact absurd hp (other b)
    next => rfl

/-- R29. -/
theorem timeRestore_served :
    serveCommand (plain cmdTimeRestore) f s =
      if f.params ≠ [] then refusedWith f .format s
      else if s.time.subst = true ∧ s.time.refNew = true ∧ s.time.refOld = true then
        granted f [] ((met f.pins s).setTime { s.time with active := .external, subst := false })
      else refusedWith f .state s := by
  have time : (met f.pins s).time = s.time := rfl
  cases hp : f.params with
  | cons b l => exact serveCommand_fail h (by rw [hp]; rfl) (by decide)
  | nil =>
    rw [if_neg (by simp)]
    split
    next ok => exact serveCommand_setsTime h (by simp [hp, cmdTimeRestore, time, ok])
    next refused =>
      refine serveCommand_fail h ?_ (by decide)
      rw [← and_assoc] at refused
      simp only [hp, cmdTimeRestore, time, Bool.and_eq_true, if_neg refused]

end

/-- Settles O18, command by command. -/
theorem timeCommandsSetTheTimebase : Obligations.TimeCommandsSetTheTimebase := by
  unfold Obligations.TimeCommandsSetTheTimebase
  intro f s h
  exact ⟨congrArg _ (timeRun_served h), congrArg _ (timeStop_served h), congrArg _ (timeSet_served h),
    congrArg _ (timeRate_served h), congrArg _ (timeRestore_served h)⟩

end Sys2Proof.TimebaseAndTicks
end

section
/-! PROOFS. The notices of an event. -/

open Sys2Proof Sys2Proof.Machine

namespace Sys2Proof.TimebaseAndTicks

/-! ## Counters and lanes (R128, R133) -/

/-- A counter of sixteen bits stops at 65535. -/
theorem satInc_eq_countedOnce (x : Half) : satInc x = countedOnce x := by
  unfold satInc countedOnce
  have lt := x.isLt
  split
  next h => subst h; rfl
  next h =>
    have ne : x.toNat ≠ 65535 := fun e => h (BitVec.eq_of_toNat_eq e)
    rw [Nat.min_eq_left (by omega)]
    apply BitVec.eq_of_toNat_eq
    simp

theorem laneFull_urgent (u : NoticeUnit) {c : NoticeClass} (h : c.urgent = true) :
    u.laneFull c = true ↔ 4 ≤ u.urgent.length := by
  rw [NoticeUnit.laneFull, if_pos h]
  exact decide_eq_true_iff

theorem laneFull_routine (u : NoticeUnit) {c : NoticeClass} (h : c.urgent = false) :
    u.laneFull c = true ↔ 16 ≤ u.routine.length := by
  rw [NoticeUnit.laneFull, h, if_neg Bool.false_ne_true]
  exact decide_eq_true_iff

theorem drop_urgent (u : NoticeUnit) {c : NoticeClass} (h : c.urgent = true) :
    u.drop c = { u with urgentDropped := countedOnce u.urgentDropped } := by
  rw [NoticeUnit.drop, if_pos h, satInc_eq_countedOnce]

theorem drop_routine (u : NoticeUnit) {c : NoticeClass} (h : c.urgent = false) :
    u.drop c = { u with routineDropped := countedOnce u.routineDropped } := by
  rw [NoticeUnit.drop, h, if_neg Bool.false_ne_true, satInc_eq_countedOnce]

/-- R128 step 4: the notice that is queued for a raised one. -/
def queuedAs (u : NoticeUnit) (r : Raised) (detail : Half) : Notice :=
  { seq := u.seq, cls := r.cls, handle := r.handle, tag := r.tag, stamp := r.stamp, detail := detail }

theorem append_urgent (u : NoticeUnit) {r : Raised} (detail : Half) (h : r.cls.urgent = true) :
    u.append r detail = { u with urgent := List.append u.urgent [queuedAs u r detail], seq := u.seq + 1 } := by
  rw [NoticeUnit.append, if_pos h]
  rfl

theorem append_routine (u : NoticeUnit) {r : Raised} (detail : Half) (h : r.cls.urgent = false) :
    u.append r detail = { u with routine := List.append u.routine [queuedAs u r detail], seq := u.seq + 1 } := by
  rw [NoticeUnit.append, h, if_neg Bool.false_ne_true]
  rfl

/-- R130: a class without an enable passes. -/
theorem enabled_of_urgent (u : NoticeUnit) {c : NoticeClass} (h : c.urgent = true) : u.enabled c = true := by
  simp [NoticeUnit.enabled, h]

/-- R130: of the routine-lane classes ROUTINE_OVERFLOW has no enable; the others pass if theirs is yes. -/
theorem enabled_eq_false_of_routine (u : NoticeUnit) {c : NoticeClass} (h : c.urgent = false) :
    u.enabled c = false ↔ c ≠ .routineOverflow ∧ u.enables.getLsbD c.code.toNat = false := by
  by_cases hc : c = .routineOverflow
  · simp [NoticeUnit.enabled, hc]
  · simp [NoticeUnit.enabled, h, hc]

/-- R131: the classes without a latch. -/
theorem sticky_eq_none (u : NoticeUnit) {c : NoticeClass} (h : c ∉ [NoticeClass.conflict, .edgesLost, .journalLoss]) :
    u.sticky c = none := by
  cases c
  case conflict => simp at h
  case edgesLost => simp at h
  case journalLoss => simp at h
  all_goals rfl

/-- R128, R133: a notice of a class that is not sticky. -/
theorem enter_of_not_sticky (u : NoticeUnit) (r : Raised)
    (h : r.cls ∉ [NoticeClass.conflict, .edgesLost, .journalLoss]) :
    u.enter r =
      if u.enabled r.cls = false then u else if u.laneFull r.cls then u.drop r.cls else u.append r r.detail := by
  simp [NoticeUnit.enter, sticky_eq_none u h]

/-- R131: the sticky classes are routine-lane classes with an enable. -/
theorem routine_of_sticky {u : NoticeUnit} {c : NoticeClass} {k : Sticky} (h : u.sticky c = some k) :
    c.urgent = false ∧ c ≠ .routineOverflow := by
  have named : c ∈ [NoticeClass.conflict, .edgesLost, .journalLoss] := by
    by_contra other
    rw [sticky_eq_none u other] at h
    cases h
  simp only [List.mem_cons, List.not_mem_nil, or_false] at named
  rcases named with rfl | rfl | rfl
  · exact ⟨rfl, by decide⟩
  · exact ⟨rfl, by decide⟩
  · exact ⟨rfl, by decide⟩

/-! Latches and counters do not touch the lanes. -/

theorem laneFull_setSticky (u : NoticeUnit) (c d : NoticeClass) (x : Sticky) :
    (u.setSticky c x).laneFull d = u.laneFull d := by
  cases c <;> rfl

theorem drop_setSticky (u : NoticeUnit) (c d : NoticeClass) (x : Sticky) :
    (u.setSticky c x).drop d = (u.drop d).setSticky c x := by
  unfold NoticeUnit.drop
  cases c <;> cases d.urgent <;> rfl

theorem append_setSticky (u : NoticeUnit) (c : NoticeClass) (x : Sticky) (r : Raised) (detail : Half) :
    (u.setSticky c x).append r detail = (u.append r detail).setSticky c x := by
  unfold NoticeUnit.append
  cases c <;> cases r.cls.urgent <;> rfl

theorem setSticky_setSticky (u : NoticeUnit) (c : NoticeClass) (x y : Sticky) :
    (u.setSticky c x).setSticky c y = u.setSticky c y := by
  cases c <;> rfl

/-- R131: a notice of a sticky class, by the latch and counter of its class. -/
theorem enter_of_sticky (u : NoticeUnit) (r : Raised) (k : Sticky) (h : u.sticky r.cls = some k) :
    u.enter r =
      stickyEntered r.cls.code.toNat k (fun x v => v.setSticky r.cls x)
        (if r.cls = .conflict then r.detail else countedOnce k.count) r u := by
  obtain ⟨routine, enable⟩ := routine_of_sticky h
  have off : (!u.enabled r.cls) = true ↔ u.enables.getLsbD r.cls.code.toNat = false := by
    rw [Bool.not_eq_true', enabled_eq_false_of_routine u routine]
    exact and_iff_right enable
  unfold stickyEntered
  simp only [NoticeUnit.enter, off, h, satInc_eq_countedOnce, laneFull_setSticky, drop_setSticky, append_setSticky,
    setSticky_setSticky, laneFull_routine u routine, drop_routine u routine, append_routine u _ routine, beq_iff_eq]
  cases latch : k.latch
  · rfl
  · rfl

/-! ## The end of an event (R129) -/

/-- The notice unit with other raised notices. -/
def withRaised (l : List Raised) (u : NoticeUnit) : NoticeUnit := { u with raised := l }

theorem drop_withRaised (l : List Raised) (u : NoticeUnit) (c : NoticeClass) :
    (withRaised l u).drop c = withRaised l (u.drop c) := by
  cases h : c.urgent
  · rw [drop_routine _ h, drop_routine _ h]; rfl
  · rw [drop_urgent _ h, drop_urgent _ h]; rfl

theorem append_withRaised (l : List Raised) (u : NoticeUnit) (r : Raised) (detail : Half) :
    (withRaised l u).append r detail = withRaised l (u.append r detail) := by
  cases h : r.cls.urgent
  · rw [append_routine _ _ h, append_routine _ _ h]; rfl
  · rw [append_urgent _ _ h, append_urgent _ _ h]; rfl

theorem setSticky_withRaised (l : List Raised) (u : NoticeUnit) (c : NoticeClass) (x : Sticky) :
    (withRaised l u).setSticky c x = withRaised l (u.setSticky c x) := by
  cases c <;> rfl

/-- R128: whether a notice enters does not depend on the notices that were raised beside it. -/
theorem enter_withRaised (l : List Raised) (u : NoticeUnit) (r : Raised) :
    (withRaised l u).enter r = withRaised l (u.enter r) := by
  have enabled : (withRaised l u).enabled r.cls = u.enabled r.cls := rfl
  have sticky : (withRaised l u).sticky r.cls = u.sticky r.cls := by cases r.cls <;> rfl
  have full (v : NoticeUnit) : (withRaised l v).laneFull r.cls = v.laneFull r.cls := rfl
  unfold NoticeUnit.enter
  rw [enabled, sticky]
  split
  · rfl
  · split
    · simp only [full, drop_withRaised, append_withRaised, apply_ite (withRaised l)]
    · simp only [full, drop_withRaised, append_withRaised, setSticky_withRaised, apply_ite (withRaised l)]

theorem foldl_enter_withRaised (l raised : List Raised) (u : NoticeUnit) :
    raised.foldl NoticeUnit.enter (withRaised l u) = withRaised l (raised.foldl NoticeUnit.enter u) := by
  induction raised generalizing u with
  | nil => rfl
  | cons r rest ih => rw [List.foldl_cons, List.foldl_cons, enter_withRaised, ih]

/-- R129: the notice raised last enters behind all the others. -/
theorem enterAll_append (first : List Raised) (last : Raised) (u : NoticeUnit) (h : u.raised = first ++ [last]) :
    u.enterAll = (withRaised first u).enterAll.enter last :=
  calc u.enterAll = withRaised [] ((first.foldl NoticeUnit.enter u).enter last) := by
        rw [NoticeUnit.enterAll, h, List.foldl_append]; rfl
    _ = (withRaised [] (first.foldl NoticeUnit.enter u)).enter last := (enter_withRaised ..).symm
    _ = (withRaised first u).enterAll.enter last := by
        rw [NoticeUnit.enterAll, show (withRaised first u).raised = first from rfl, foldl_enter_withRaised]; rfl

/-- Settles O31: the classes by their latch, and the event by the notice raised last. -/
theorem noticesEnterTheirLanes : Obligations.NoticesEnterTheirLanes := by
  unfold Obligations.NoticesEnterTheirLanes
  refine ⟨fun u r h => ?_, fun u r => ⟨fun h => ?_, fun h => ?_, fun h => ?_⟩, fun s => ⟨?_, fun first last h => ?_⟩⟩
  · rw [enter_of_not_sticky u r h]
    cases lane : r.cls.urgent
    · simp only [enabled_eq_false_of_routine u lane, laneFull_routine u lane, drop_routine u lane,
        append_routine u _ lane]
      rfl
    · simp only [enabled_of_urgent u lane, laneFull_urgent u lane, drop_urgent u lane, append_urgent u _ lane]
      rfl
  · rw [enter_of_sticky u r u.conflict (by rw [h]; rfl), h]
    rfl
  · rw [enter_of_sticky u r u.edgesLost (by rw [h]; rfl), h]
    rfl
  · rw [enter_of_sticky u r u.journalLoss (by rw [h]; rfl), h]
    rfl
  · exact s.notes.enterAll_of_none
  · exact enterAll_append first last s.notes h

end Sys2Proof.TimebaseAndTicks
end

section
/-! PROOFS. The stages of a tick. -/

open Sys2Proof Sys2Proof.Machine

namespace Sys2Proof.TimebaseAndTicks

/-! ## Stage 1 (R30, R31, R104) -/

/-- R104: the frozen duration counts while the table is frozen. -/
theorem countFrozen_eq (s : State) :
    countFrozen s = s.setCues { s.cues with
      frozenDur := if s.cues.frozen = true then min (s.cues.frozenDur + 1) (2 ^ 30) else s.cues.frozenDur } := by
  by_cases frozen : s.cues.frozen = true
  · rw [countFrozen, if_pos frozen, if_pos frozen, Config.frozenMax]
  · rw [countFrozen, if_neg frozen, if_neg frozen]
    rfl

theorem countTick_eq (s : State) : countTick s = tickCounted s := countFrozen_eq _

/-! ## Stage 2 (R112 to R120) -/

theorem takes_eq_wants (sel : Selection) (rising : Bool) : sel.takes rising = wants sel rising := by
  cases sel <;> rfl

/-- R116 to R120: the edge log, in the words of the statements. -/
theorem logEdge_eq (line : Fin 8) (rising : Bool) (s : State) : logEdge line rising s = edgeLogged line rising s := by
  unfold logEdge edgeLogged
  simp only [takes_eq_wants]
  cases wants s.edges.lines[line].select rising
  case false => rfl
  case true =>
    by_cases room : s.edges.log.length < 64
    · simp only [storeEdge, Config.logSize, List.length_append, List.length_singleton, if_pos room, if_true,
        Bool.true_eq_false, if_false]
      rfl
    · simp only [overflowEdge, loseEdge, Config.logSize, satInc_eq_countedOnce, if_neg room, if_true,
        Bool.true_eq_false, if_false]
      cases s.edges.policy
      case keepOldest => simp only [State.setEdges_edges, State.setEdges_setEdges]
      case keepNewest =>
        simp only [State.setEdges_edges, State.setEdges_setEdges]
        cases s.edges.log.tail <;> rfl

/-- The filtered level that a sample has. -/
def levelOf (high : Bool) : FiltLevel := if high then .high else .low

theorem sample_filtered (l : Line) (high : Bool) : (l.sample high).filtered = l.filtered := by
  unfold Line.sample
  split <;> rfl

theorem sample_length (l : Line) (high : Bool) : (l.sample high).length = l.length := by
  unfold Line.sample
  split <;> rfl

theorem sample_runValue (l : Line) (high : Bool) : (l.sample high).runValue = some high := by
  unfold Line.sample
  split
  next same => exact same
  next => rfl

/-- R113: a line takes the level of a run of the filter length, and of its first sample. -/
theorem lineSampled_eq (l : Line) (high : Bool) :
    lineSampled high l = { l.sample high with
      filtered := if l.filtered = .unsettled ∨ l.length ≤ (l.sample high).runCount then levelOf high else l.filtered } := by
  by_cases same : l.runValue = some high
  · simp only [lineSampled, levelOf, Line.sample, if_true, ← same]
  · simp only [lineSampled, levelOf, Line.sample, if_neg same]

/-- R113: a qualified edge is a run of the filter length against the filtered level. -/
theorem edge_sample (l : Line) (high : Bool) :
    (l.sample high).edge =
      if l.filtered = levelOf (!high) ∧ l.length ≤ (l.sample high).runCount then some high else none := by
  unfold Line.edge
  rw [sample_filtered, sample_length, sample_runValue]
  cases l.filtered <;> cases high <;> simp [levelOf]

/-- A run that makes no edge is too short, or holds the filtered level. -/
theorem level_of_noEdge {l : Line} {high : Bool} (settled : l.filtered ≠ .unsettled)
    (h : ¬(l.filtered = levelOf (!high) ∧ l.length ≤ (l.sample high).runCount)) :
    (if l.filtered = .unsettled ∨ l.length ≤ (l.sample high).runCount then levelOf high else l.filtered) = l.filtered := by
  split
  next long =>
    have other : l.filtered ≠ levelOf (!high) := fun e => h ⟨e, long.resolve_left settled⟩
    cases hf : l.filtered <;> cases high <;> simp_all [levelOf]
  next => rfl

theorem setLine_line (s : State) (n : Fin 8) (l : Line) : (s.setLine n l).edges.lines[n] = l := by
  simp [State.setLine]

theorem setLine_setLine (s : State) (n : Fin 8) (l m : Line) : (s.setLine n l).setLine n m = s.setLine n m := by
  simp [State.setLine]

/-- R114: what a line's qualified edge does, once its run is known. -/
theorem qualifyEdge_setLine (n : Fin 8) (l : Line) (s : State) :
    qualifyEdge n (s.setLine n l) =
      match l.edge with
      | none => s.setLine n l
      | some rising => hookEdge n rising (edgeLogged n rising (s.setLine n { l with filtered := levelOf rising })) := by
  unfold qualifyEdge
  simp only [setLine_line, setLine_setLine, logEdge_eq]
  rfl

/-- A line whose filtered level does not change makes no edge. -/
theorem lineServed_of_same (s : State) (n : Fin 8)
    (h : lineSampled (s.pins.inputs.ins.getLsbD n.val) s.edges.lines[n] =
      s.edges.lines[n].sample (s.pins.inputs.ins.getLsbD n.val)) :
    lineServed s n = s.setLine n (s.edges.lines[n].sample (s.pins.inputs.ins.getLsbD n.val)) := by
  unfold lineServed
  simp only [h, sample_filtered]
  cases s.edges.lines[n].filtered <;> rfl

/-- R112 to R114: one line, in the words of the statements. -/
theorem sampleLine_eq (s : State) (n : Fin 8) : sampleLine s n = lineServed s n := by
  have after := lineSampled_eq s.edges.lines[n] (s.pins.inputs.ins.getLsbD n.val)
  have edge := edge_sample s.edges.lines[n] (s.pins.inputs.ins.getLsbD n.val)
  have served := lineServed_of_same s n
  unfold sampleLine
  simp only [sample_filtered, qualifyEdge_setLine]
  generalize hh : s.pins.inputs.ins.getLsbD n.val = high at *
  generalize hl : s.edges.lines[n] = l at *
  by_cases first : l.filtered = .unsettled
  · -- the first sample of the line
    rw [if_pos (Or.inl first)] at after
    unfold lineServed
    simp only [hh, hl, after, first, if_true]
    rfl
  rw [if_neg first]
  by_cases turned : l.filtered = levelOf (!high) ∧ l.length ≤ (l.sample high).runCount
  · -- a qualified edge
    rw [if_pos (Or.inr turned.2)] at after
    rw [edge, if_pos turned]
    unfold lineServed
    simp only [hh, hl, after, turned.1]
    cases high <;> rfl
  · -- no edge: the run is too short, or holds the filtered level
    have same : lineSampled high l = l.sample high := by
      rw [after, level_of_noEdge first turned]
      conv => lhs; rw [← sample_filtered l high]
    rw [edge, if_neg turned, served same]

theorem edgeStage_eq (s : State) : edgeStage s = (List.finRange 8).foldl lineServed s := by
  rw [edgeStage, show sampleLine = lineServed from funext fun s => funext (sampleLine_eq s)]

/-! ## The tick (R33, R36) -/

theorem tick_eq (s : State) :
    tick s = if Ticking s then settle (standStage (cueStage ((List.finRange 8).foldl lineServed (tickCounted s)))) else s := by
  unfold tick tickStages
  rw [edgeStage_eq, countTick_eq]
  exact if_congr (by simp [ticking]) rfl rfl

/-- R198: a soft reset that waits takes effect at the rising edge of nCS, and then no tick is processed. -/
theorem tick_takeReset (pins : InPins) (k : ResetKind) (s : State) : tick (met pins (takeReset k s)) = met pins (takeReset k s) := by
  rw [tick_eq, if_neg]
  rintro ⟨ready, -⟩
  cases ready

/-- Settles O39. -/
theorem ticksRunTheirStagesInOrder : Obligations.TicksRunTheirStagesInOrder := by
  unfold Obligations.TicksRunTheirStagesInOrder
  refine fun pins s => ⟨fun ⟨soft, high⟩ => ?_, fun quiet => ?_⟩
  · have reset : meetPins pins s = met pins (takeReset .soft s) := by
      simp [meetPins, nCsRises, soft, high, meetInputs_eq]
    exact congrArg Host.Outcome.next ((congrArg tick reset).trans (tick_takeReset pins .soft s))
  · have stays : meetPins pins s = met pins s := by
      cases soft : s.sys.softPending
      · exact meetPins_eq pins s soft
      · have low : pins.nCs = false := by simpa [soft] using quiet
        simp [meetPins, low, meetInputs_eq]
    exact congrArg Host.Outcome.next ((congrArg tick stays).trans (tick_eq _))

end Sys2Proof.TimebaseAndTicks
end

section
/-! PROOFS. What a tick leaves alone. -/

open Sys2Proof Sys2Proof.Machine

namespace Sys2Proof.TimebaseAndTicks

/-! ## What the stages leave alone (R36) -/

/-- The state without the items that the edge, cue and stand-in stages of a tick may change: commanded levels, the cue table but
for the freeze, lines and edge log, routine lane, and the stand-in engine's position and masked count. -/
def unticked (s : State) : State :=
  { s with
    chans := s.chans.map fun ch => { ch with level := .low }
    cues := { CueTable.reset with frozen := s.cues.frozen }
    edges := { EdgeUnit.reset with policy := s.edges.policy, threshold := s.edges.threshold }
    notes := { NoticeUnit.reset with
      urgent := s.notes.urgent, enables := s.notes.enables, raised := s.notes.raised.filter fun r => r.cls.urgent }
    stand := { s.stand with pos := 0, masked := 0 } }

/-! ### Updates -/

theorem unticked_setCues (s : State) (x : CueTable) (h : x.frozen = s.cues.frozen) :
    unticked (s.setCues x) = unticked s := by
  simp only [unticked, State.setCues, h]

@[simp] theorem unticked_setCue (n : Fin 48) (c : Cue) (s : State) : unticked (s.setCue n c) = unticked s := rfl

@[simp] theorem unticked_setLine (n : Fin 8) (l : Line) (s : State) : unticked (s.setLine n l) = unticked s := rfl

/-- R44: a masked write changes commanded levels alone. -/
@[simp] theorem unticked_writeMask (m : Half) (k : LevelKind) (s : State) :
    unticked (s.setChans (writeMask m k s.chans)) = unticked s := by
  have config : (writeMask m k s.chans).map (fun ch => { ch with level := Level.low }) =
      s.chans.map fun ch => { ch with level := .low } := by
    apply Vector.ext
    intro i hi
    simp only [Vector.getElem_map, writeMask, Vector.getElem_ofFn]
    split <;> rfl
  simp only [unticked, State.setChans, config]

/-- A routine-lane notice that waits for the end of the event. -/
theorem unticked_raise (c : NoticeClass) (h t d : Half) (s : State) (routine : c.urgent = false) :
    unticked (raise c h t d s) = unticked s := by
  simp [unticked, raise, State.setNotes, List.filter_append, routine]

/-! ### Cues -/

@[simp] theorem unticked_cutSlot (m : Half) (w : Option (Fin 48)) (s : State) (n : Fin 48) :
    unticked (cutSlot m w s n) = unticked s := by
  unfold cutSlot
  split
  · rfl
  · split
    next => rfl
    next c _ =>
      cases c.wait with
      | armed => rfl
      | hooked => rfl
      | inPulse trail sched mask ending =>
        dsimp only
        split
        · rfl
        · exact unticked_raise .cut _ _ _ _ rfl

@[simp] theorem unticked_cutBy (m : Half) (w : Option (Fin 48)) (s : State) : unticked (cutBy m w s) = unticked s :=
  foldl_keeps (g := unticked) (unticked_cutSlot m w) _ s

@[simp] theorem unticked_driveAndCut (m : Half) (k : LevelKind) (w : Option (Fin 48)) (s : State) :
    unticked (driveAndCut m k w s) = unticked s := by
  rw [driveAndCut, unticked_cutBy, unticked_writeMask]

@[simp] theorem unticked_place (n : Fin 48) (s : State) : unticked (place n s) = unticked s := by
  unfold place
  repeat' split
  all_goals rfl

@[simp] theorem unticked_freeSlot (n : Fin 48) (s : State) : unticked (freeSlot n s) = unticked s := rfl

@[simp] theorem unticked_unlist (n : Fin 48) (s : State) : unticked (unlist n s) = unticked s := rfl

@[simp] theorem unticked_endSeries (n : Fin 48) (cause : Nat) (s : State) : unticked (endSeries n cause s) = unticked s := by
  unfold endSeries
  cases s.cueAt n with
  | none => rfl
  | some c =>
    have told : ∀ d, unticked (if c.notifyEnd then raise .seriesEnd (handleOf s n) c.tag d s else s) = unticked s := by
      intro d
      split
      · exact unticked_raise _ _ _ _ _ rfl
      · rfl
    dsimp only
    split
    · rw [unticked_setCue, unticked_unlist, told]
    · rw [unticked_freeSlot, told]

@[simp] theorem unticked_reschedule (n : Fin 48) (s : State) : unticked (reschedule n s) = unticked s := by
  unfold reschedule
  repeat' split
  all_goals simp

@[simp] theorem unticked_completeOccurrence (n : Fin 48) (s : State) :
    unticked (completeOccurrence n s) = unticked s := by
  simp only [completeOccurrence]
  repeat' split
  all_goals simp

@[simp] theorem unticked_countMasked (m : Half) (s : State) : unticked (countMasked m s) = unticked s := rfl

@[simp] theorem unticked_trailingEdge (n : Fin 48) (s : State) : unticked (trailingEdge n s) = unticked s := by
  unfold trailingEdge
  repeat' split
  all_goals simp

@[simp] theorem unticked_countFired (n : Fin 48) (c : Cue) (b : Bool) (s : State) :
    unticked (countFired n c b s) = unticked s := by
  unfold countFired
  split
  · exact (unticked_raise _ _ _ _ _ rfl).trans (unticked_setCues _ _ rfl)
  · exact unticked_setCues _ _ rfl

@[simp] theorem unticked_skipOccurrence (n : Fin 48) (c : Cue) (s : State) :
    unticked (skipOccurrence n c s) = unticked s := by
  unfold skipOccurrence
  rw [unticked_completeOccurrence]
  split
  · exact (unticked_raise _ _ _ _ _ rfl).trans (unticked_setCues _ _ rfl)
  · exact unticked_setCues _ _ rfl

@[simp] theorem unticked_fireAction (n : Fin 48) (c : Cue) (s : State) (l : Led) :
    unticked (fireAction n c s l).1 = unticked s := by
  unfold fireAction
  repeat' split
  all_goals simp

@[simp] theorem unticked_leadingAction (n : Fin 48) (p : State × Led) : unticked (leadingAction n p).1 = unticked p.1 := by
  unfold leadingAction
  repeat' split
  all_goals simp

@[simp] theorem unticked_markOverdue (n : Fin 48) (s : State) : unticked (markOverdue n s) = unticked s := by
  unfold markOverdue
  repeat' split
  all_goals simp

@[simp] theorem unticked_reportConflict (l : Led) (s : State) : unticked (reportConflict l s) = unticked s := by
  unfold reportConflict
  split
  · rfl
  · exact (unticked_raise _ _ _ _ _ rfl).trans (unticked_setCues _ _ rfl)

/-- R90: the leading actions of a tick, one after another. -/
theorem unticked_leads (leads : List (Fin 48)) (p : State × Led) :
    unticked (leads.foldl (fun p n => leadingAction n p) p).1 = unticked p.1 := by
  induction leads generalizing p with
  | nil => rfl
  | cons n rest ih => rw [List.foldl_cons, ih, unticked_leadingAction]

/-- R85 to R98: stage 3. -/
theorem unticked_cueStage (s : State) : unticked (cueStage s) = unticked s := by
  unfold cueStage
  rw [unticked_reportConflict, unticked_leads,
    foldl_keeps (f := fun s n => trailingEdge n s) (g := unticked) fun s n => unticked_trailingEdge n s,
    foldl_keeps (f := fun s n => markOverdue n s) (g := unticked) fun s n => unticked_markOverdue n s]

/-! ### Edges -/

@[simp] theorem unticked_hookSlot (line : Fin 8) (rising : Bool) (s : State) (n : Fin 48) :
    unticked (hookSlot line rising s n) = unticked s := by
  unfold hookSlot
  repeat' split
  all_goals simp

@[simp] theorem unticked_hookEdge (line : Fin 8) (rising : Bool) (s : State) :
    unticked (hookEdge line rising s) = unticked s :=
  foldl_keeps (g := unticked) (unticked_hookSlot line rising) _ s

@[simp] theorem unticked_storeEdge (line : Fin 8) (rising : Bool) (s : State) :
    unticked (storeEdge line rising s) = unticked s := by
  simp only [storeEdge]
  split
  · exact unticked_raise .edgesReady _ _ _ _ rfl
  · rfl

@[simp] theorem unticked_loseEdge (s : State) : unticked (loseEdge s) = unticked s := unticked_raise .edgesLost _ _ _ _ rfl

@[simp] theorem unticked_overflowEdge (line : Fin 8) (rising : Bool) (s : State) :
    unticked (overflowEdge line rising s) = unticked s := by
  simp only [overflowEdge]
  split
  · exact unticked_loseEdge _
  · exact unticked_loseEdge _

@[simp] theorem unticked_logEdge (line : Fin 8) (rising : Bool) (s : State) :
    unticked (logEdge line rising s) = unticked s := by
  unfold logEdge
  repeat' split
  all_goals simp

@[simp] theorem unticked_qualifyEdge (n : Fin 8) (s : State) : unticked (qualifyEdge n s) = unticked s := by
  unfold qualifyEdge
  split
  · rfl
  · simp

@[simp] theorem unticked_sampleLine (s : State) (n : Fin 8) : unticked (sampleLine s n) = unticked s := by
  simp only [sampleLine]
  split
  · rfl
  · simp

/-- R112 to R120: stage 2. -/
theorem unticked_edgeStage (s : State) : unticked (edgeStage s) = unticked s :=
  foldl_keeps (g := unticked) unticked_sampleLine _ s

/-! ### The stand-in program -/

theorem unticked_applyStep (s : State) (x : ProgramStep) : unticked (applyStep s x) = unticked s := unticked_driveAndCut ..

/-- R169: the advance of the position changes the stand-in engine's state at the end of a ONCE program alone. -/
theorem advance_cases (s : State) :
    unticked (advance s) = unticked s ∨ unticked (advance s) = unticked (s.setStand { s.stand with state := .ended }) := by
  unfold advance cycleEnd
  split
  · split
    next => exact .inl rfl
    next x _ =>
      cases x.mode with
      | cycle => exact .inl rfl
      | once => exact .inr rfl
  · exact .inl rfl

/-- R168, R169: stage 4. -/
theorem standStage_cases (s : State) :
    unticked (standStage s) = unticked s ∨
      s.stand.state = .run ∧ unticked (standStage s) = unticked (s.setStand { s.stand with state := .ended }) := by
  unfold standStage
  split
  next run =>
    split
    next => exact .inl rfl
    next x _ =>
      have steps := foldl_keeps (g := unticked) unticked_applyStep (x.steps.filter fun y => y.offset == s.stand.pos) s
      refine (advance_cases _).imp (·.trans steps) fun ended => ⟨run, ended.trans ?_⟩
      exact congrArg (fun u => u.setStand { u.stand with state := .ended }) steps
  next => exact .inl rfl

/-- What stage 4 leaves alone, whatever it does to the stand-in engine's state. -/
theorem unticked_standStage (s : State) :
    unticked (standStage s) = unticked (s.setStand { s.stand with state := (standStage s).stand.state }) ∧
      ((standStage s).stand.state = s.stand.state ∨ s.stand.state = .run ∧ (standStage s).stand.state = .ended) := by
  rcases standStage_cases s with same | ⟨run, ended⟩
  · have state : (standStage s).stand.state = s.stand.state := congrArg (fun u => u.stand.state) same
    exact ⟨by rw [same, state]; rfl, .inl state⟩
  · have state : (standStage s).stand.state = .ended := congrArg (fun u => u.stand.state) ended
    exact ⟨by rw [ended, state], .inr ⟨run, state⟩⟩

/-! ## The end of the event -/

/-- R128: a routine-lane notice leaves the urgent lane and the enables alone. -/
theorem enter_kept (u : NoticeUnit) (r : Raised) (routine : r.cls.urgent = false) :
    (u.enter r).urgent = u.urgent ∧ (u.enter r).enables = u.enables := by
  have append (v : NoticeUnit) (d : Half) : (v.append r d).urgent = v.urgent ∧ (v.append r d).enables = v.enables := by
    rw [append_routine v d routine]
    exact ⟨rfl, rfl⟩
  have drop (v : NoticeUnit) : (v.drop r.cls).urgent = v.urgent ∧ (v.drop r.cls).enables = v.enables := by
    rw [drop_routine v routine]
    exact ⟨rfl, rfl⟩
  have sticky (v : NoticeUnit) (x : Sticky) :
      (v.setSticky r.cls x).urgent = v.urgent ∧ (v.setSticky r.cls x).enables = v.enables := by
    cases r.cls <;> exact ⟨rfl, rfl⟩
  simp only [NoticeUnit.enter]
  repeat' split
  all_goals simp only [append, drop, sticky, and_self]

theorem enterAll_kept (u : NoticeUnit) (routine : ∀ r ∈ u.raised, r.cls.urgent = false) :
    u.enterAll.urgent = u.urgent ∧ u.enterAll.enables = u.enables := by
  suffices h : ∀ (l : List Raised) (v : NoticeUnit), (∀ r ∈ l, r.cls.urgent = false) →
      (l.foldl NoticeUnit.enter v).urgent = v.urgent ∧ (l.foldl NoticeUnit.enter v).enables = v.enables from
    h u.raised u routine
  intro l
  induction l with
  | nil => exact fun _ _ => ⟨rfl, rfl⟩
  | cons r rest ih =>
    intro v hl
    obtain ⟨hr, hrest⟩ := List.forall_mem_cons.1 hl
    obtain ⟨urgent, enables⟩ := ih (v.enter r) hrest
    obtain ⟨urgent', enables'⟩ := enter_kept v r hr
    exact ⟨urgent.trans urgent', enables.trans enables'⟩

theorem present_eq_presented (d : Drive) (l : Level) : present d l = presented d l := by
  cases d <;> cases l <;> rfl

theorem outputsHeld_iff (s : State) : s.sys.phase.outputsHeld = true ↔ OutputsHeld s := by
  unfold OutputsHeld NotYet
  cases s.sys.phase <;> simp [Phase.outputsHeld]

/-- R42, R46, R139, R150: at the end of an event the output pins show the state. -/
theorem pinsShown_settle (s : State) (h : s.pins.miso = if s.pins.inputs.nCs = true then .hiZ else .driven) :
    PinsShown (settle s) := by
  refine ⟨fun held i => ?_, fun shown i => ?_, ?_, ?_, h⟩
  · have e : s.sys.phase.outputsHeld = true := (outputsHeld_iff s).2 held
    simp [settle, showPins, outPins, e]
  · have e : s.sys.phase.outputsHeld = false := Bool.not_eq_true _ ▸ fun e => shown ((outputsHeld_iff s).1 e)
    simp [settle, showPins, outPins, e, present_eq_presented]
  · simp [settle, showPins, attention, or_iff_not_imp_left]
  · simp [settle, showPins]

/-! ## The tick -/

/-- R36: what stages 1 to 4 leave alone. -/
theorem unticked_stages (s : State) :
    let t := standStage (cueStage (edgeStage (countTick s)))
    unticked t = unticked ((tickCounted s).setStand { s.stand with state := t.stand.state }) ∧
      (t.stand.state = s.stand.state ∨ s.stand.state = .run ∧ t.stand.state = .ended) := by
  have before : unticked (cueStage (edgeStage (countTick s))) = unticked (tickCounted s) := by
    rw [unticked_cueStage, unticked_edgeStage, countTick_eq]
  have state : (cueStage (edgeStage (countTick s))).stand.state = s.stand.state :=
    congrArg (fun u => u.stand.state) before
  obtain ⟨kept, moved⟩ := unticked_standStage (cueStage (edgeStage (countTick s)))
  rw [state] at moved
  have ended (x : StandState) := congrArg (fun u => u.setStand { u.stand with state := x }) before
  exact ⟨kept.trans (ended _), moved⟩

/-- R42: what a tick leaves of a channel's configuration. -/
theorem chan_of_unticked {s t : State} (h : unticked t = unticked s) (i : Fin 16) :
    { t.chans[i] with level := s.chans[i].level } = s.chans[i] := by
  have config := congrArg (fun u => u.chans[i]) h
  simp only [unticked, Fin.getElem_fin, Vector.getElem_map] at config
  exact congrArg (fun ch => ({ ch with level := s.chans[i].level } : Channel)) config

/-- R43: owners follow the configuration and whether the part is in stand-in. -/
theorem standinOwned_congr {s t : State} (owned : ∀ i : Fin 16, t.chans[i].owned = s.chans[i].owned)
    (state : t.stand.state = s.stand.state ∨ s.stand.state = .run ∧ t.stand.state = .ended) :
    standinOwned t = standinOwned s := by
  have host : (t.stand.state != .host) = (s.stand.state != .host) := by
    rcases state with same | ⟨run, ended⟩
    · rw [same]
    · rw [run, ended]; rfl
  unfold standinOwned
  simp only [owned, host]

/-- Settles O40: the stages leave `unticked` alone, but for the end of a ONCE program. -/
theorem ticksLeaveTheOtherBlocksAlone : Obligations.TicksLeaveTheOtherBlocksAlone := by
  unfold Obligations.TicksLeaveTheOtherBlocksAlone
  intro pins s t run soft none ht
  have processed : ticking (met pins s) = true := (ticking_iff _).2 run
  have meets : tick (meetPins pins s) = t := Host.Outcome.next.inj ht
  rw [meetPins_eq pins s soft, tick, if_pos processed, tickStages] at meets
  subst meets
  obtain ⟨kept, state⟩ := unticked_stages (met pins s)
  generalize standStage (cueStage (edgeStage (countTick (met pins s)))) = u at kept state ⊢
  have keeps {α : Type} (item : State → α) := congrArg item kept
  have chans (i : Fin 16) : { u.chans[i] with level := s.chans[i].level } = s.chans[i] := chan_of_unticked kept i
  have owned (i : Fin 16) : u.chans[i].owned = s.chans[i].owned := by rw [← chans i]
  have raised : ∀ r ∈ u.notes.raised, r.cls.urgent = false := by
    have waiting : (met pins s).notes.raised = [] := none
    have filtered := keeps fun v => v.notes.raised
    simpa [unticked, tickCounted, waiting] using filtered
  obtain ⟨urgent, enables⟩ := enterAll_kept u.notes raised
  have inputs : u.pins = (met pins s).pins := keeps State.pins
  refine ⟨keeps State.port, keeps State.ward, keeps State.store, keeps State.sys, keeps State.free, keeps State.pending,
    keeps State.time, congrArg Pins.inputs inputs, pinsShown_settle u (by rw [inputs]; rfl), chans,
    standinOwned_congr owned state, ?_, state,
    keeps fun v => v.cues.frozen, keeps fun v => v.edges.policy, keeps fun v => v.edges.threshold,
    enables.trans (keeps fun v => v.notes.enables), urgent.trans (keeps fun v => v.notes.urgent)⟩
  exact keeps fun v => { v.stand with state := s.stand.state, pos := s.stand.pos, masked := s.stand.masked }

end Sys2Proof.TimebaseAndTicks
end

section
/-! PROOFS. Cutting writes. -/

open Sys2Proof Sys2Proof.Machine

namespace Sys2Proof.OutputChannels

/-! ## One slot (R48, R99) -/

theorem without_of_disjoint {m : Half} {c : Cue} (h : c.pending &&& m = 0) : Cue.without m c = c := by
  obtain ⟨wait, rfl⟩ : ∃ wait, wait = c.wait := ⟨_, rfl⟩
  unfold Cue.pending at h
  unfold Cue.without
  split
  next => rfl
  next trail sched mask ending hw =>
    have kept : mask &&& ~~~m = mask := by
      simp only [hw] at h
      apply BitVec.eq_of_getLsbD_eq
      intro i hi
      have bit := congrArg (·.getLsbD i) h
      simp only [BitVec.getLsbD_and] at bit
      simp only [BitVec.getLsbD_and, BitVec.getLsbD_not, hi]
      cases hm : mask.getLsbD i <;> simp_all
    rw [kept, ← hw]
  next => rfl

@[simp] theorem pending_without (m : Half) (c : Cue) : (Cue.without m c).pending = c.pending &&& ~~~m := by
  unfold Cue.without Cue.pending
  cases hw : c.wait <;> simp [hw]

@[simp] theorem action_without (m : Half) (c : Cue) : (Cue.without m c).action = c.action := by
  unfold Cue.without
  split <;> rfl

/-! ## The slots of a list -/

/-- R48, R99: what a cutting write to the channels of a mask does to the cues of some slots. -/
def cutOver (l : List (Fin 48)) (m : Half) (s : State) : State :=
  (s.setCues { s.cues with
    slots := Vector.ofFn fun n =>
      if n ∈ l then { s.cues.slots[n] with cue := s.cues.slots[n].cue.map (Cue.without m) } else s.cues.slots[n]
    cut := s.cues.cut + BitVec.ofNat 32 (l.map (cutCount m s)).sum }).setNotes
      { s.notes with raised := List.append s.notes.raised (l.filterMap (cutNotice m s)) }

theorem cutOver_cueAt (l : List (Fin 48)) (m : Half) (s : State) (n : Fin 48) :
    (cutOver l m s).cueAt n = if n ∈ l then (s.cueAt n).map (Cue.without m) else s.cueAt n := by
  simp only [cutOver, State.cueAt, State.setNotes_cues, State.setCues_cues, Fin.getElem_fin, Vector.getElem_ofFn]
  split <;> rfl

theorem cutOver_handleOf (l : List (Fin 48)) (m : Half) (s : State) (n : Fin 48) :
    handleOf (cutOver l m s) n = handleOf s n := by
  simp only [handleOf, cutOver, State.setNotes_cues, State.setCues_cues, Fin.getElem_fin, Vector.getElem_ofFn]
  split <;> rfl

/-- R48: a cutting write to channels that no pending trailing mask of the slots holds does nothing. -/
theorem cutOver_of_disjoint {l : List (Fin 48)} {m : Half} {s : State}
    (h : ∀ n ∈ l, ∀ c, s.cueAt n = some c → c.pending &&& m = 0) : cutOver l m s = s := by
  have slots : (Vector.ofFn fun n : Fin 48 =>
      if n ∈ l then { s.cues.slots[n] with cue := s.cues.slots[n].cue.map (Cue.without m) } else s.cues.slots[n]) =
      s.cues.slots := by
    apply Vector.ext
    intro i hi
    simp only [Vector.getElem_ofFn]
    split
    next hl =>
      have kept : s.cues.slots[i].cue.map (Cue.without m) = s.cues.slots[i].cue := by
        cases hc : s.cues.slots[i].cue with
        | none => rfl
        | some c => rw [Option.map_some, without_of_disjoint (h ⟨i, hi⟩ hl c hc)]
      exact congrArg (fun cue => { s.cues.slots[i] with cue := cue }) kept
    next => rfl
  have count : (l.map (cutCount m s)).sum = 0 := by
    refine List.sum_eq_zero fun k hk => ?_
    obtain ⟨n, hn, rfl⟩ := List.mem_map.1 hk
    unfold cutCount
    split
    next => rfl
    next c hc => rw [h n hn c hc]; decide
  have notices : l.filterMap (cutNotice m s) = [] := by
    refine List.filterMap_eq_nil_iff.2 fun n hn => ?_
    unfold cutNotice
    split
    next => rfl
    next c hc => rw [if_pos (h n hn c hc)]
  rw [cutOver, slots, count, notices]
  simp [State.setCues, State.setNotes]

/-- R48: a slot whose cue holds none of the channels is not cut. -/
theorem cutSlot_of_disjoint {m : Half} {s : State} {n : Fin 48}
    (h : ∀ c, s.cueAt n = some c → c.pending &&& m = 0) : cutSlot m none s n = s := by
  unfold cutSlot
  cases hc : s.cueAt n with
  | none => rfl
  | some c =>
    have uncut := h c hc
    unfold Cue.pending at uncut
    cases hw : c.wait with
    | armed due sched overdue => simp [hw]
    | hooked => simp [hw]
    | inPulse trail sched mask ending =>
      simp only [hw] at uncut
      simp [hw, uncut]

/-- R48, R99: what the cut of one cue does. -/
theorem cutSlot_of_held {m : Half} {s : State} {n : Fin 48} {c : Cue} (hc : s.cueAt n = some c)
    (h : c.pending &&& m ≠ 0) : cutSlot m none s n = cutOver [n] m s := by
  have slots : (Vector.ofFn fun k : Fin 48 =>
      if k ∈ [n] then { s.cues.slots[k] with cue := s.cues.slots[k].cue.map (Cue.without m) } else s.cues.slots[k]) =
      (s.setCue n (Cue.without m c)).cues.slots := by
    have cue : s.cues.slots[n.val].cue = some c := hc
    apply Vector.ext
    intro i hi
    simp only [Vector.getElem_ofFn, State.setCue, State.setCues_cues, Vector.getElem_set, List.mem_singleton, Fin.ext_iff]
    by_cases e : n.val = i
    · subst e
      simp [cue]
    · simp [e, Ne.symm e]
  have handle (d : Cue) : handleOf (s.setCue n d) n = handleOf s n := by rw [handleOf, handleOf, State.setCue_gen]
  cases hw : c.wait with
  | armed due sched overdue => exact absurd (by simp [Cue.pending, hw]) h
  | hooked => exact absurd (by simp [Cue.pending, hw]) h
  | inPulse trail sched mask ending =>
    have pending : c.pending = mask := by simp [Cue.pending, hw]
    rw [pending] at h
    rw [cutOver, slots]
    simp only [cutSlot, cutNotice, cutCount, hc, hw, pending, h, List.filterMap_cons, List.map_cons, Cue.without]
    simp [raise, State.setCue, handleOf]

theorem cutSlot_eq_cutOver (m : Half) (s : State) (n : Fin 48) : cutSlot m none s n = cutOver [n] m s := by
  by_cases h : ∀ c, s.cueAt n = some c → c.pending &&& m = 0
  · rw [cutSlot_of_disjoint h, cutOver_of_disjoint fun k hk => List.mem_singleton.1 hk ▸ h]
  · push Not at h
    obtain ⟨c, hc, held⟩ := h
    exact cutSlot_of_held hc held

theorem cutOver_parts (l : List (Fin 48)) (m : Half) (s : State) : cutOver l m s =
    (s.setCues { s.cues with slots := (cutOver l m s).cues.slots, cut := (cutOver l m s).cues.cut }).setNotes
      { s.notes with raised := (cutOver l m s).notes.raised } := rfl

theorem cutOver_cons {n : Fin 48} {l : List (Fin 48)} (h : n ∉ l) (m : Half) (s : State) :
    cutOver (n :: l) m s = cutOver l m (cutOver [n] m s) := by
  have other : ∀ k ∈ l, k ∉ [n] := fun k hk e => h (List.mem_singleton.1 e ▸ hk)
  have cue : ∀ k ∈ l, (cutOver [n] m s).cueAt k = s.cueAt k := fun k hk => by
    rw [cutOver_cueAt, if_neg (other k hk)]
  have count : l.map (cutCount m (cutOver [n] m s)) = l.map (cutCount m s) :=
    List.map_congr_left fun k hk => by rw [cutCount, cutCount, cue k hk]
  have notice : l.filterMap (cutNotice m (cutOver [n] m s)) = l.filterMap (cutNotice m s) :=
    List.filterMap_congr fun k hk => by
      unfold cutNotice
      rw [cue k hk, cutOver_handleOf]
      rfl
  have slots : (cutOver (n :: l) m s).cues.slots = (cutOver l m (cutOver [n] m s)).cues.slots := by
    apply Vector.ext
    intro i hi
    simp only [cutOver, State.setNotes_cues, State.setCues_cues, Vector.getElem_ofFn, List.mem_cons,
      List.not_mem_nil, or_false, Fin.getElem_fin]
    by_cases e : (⟨i, hi⟩ : Fin 48) = n
    · simp [e, h]
    · simp [e]
  have cut : (cutOver (n :: l) m s).cues.cut = (cutOver l m (cutOver [n] m s)).cues.cut := by
    change s.cues.cut + BitVec.ofNat 32 ((n :: l).map (cutCount m s)).sum =
      s.cues.cut + BitVec.ofNat 32 ([n].map (cutCount m s)).sum + BitVec.ofNat 32 (l.map (cutCount m (cutOver [n] m s))).sum
    rw [count, BitVec.add_assoc, ← BitVec.ofNat_add, List.map_cons, List.sum_cons, List.map_singleton, List.sum_singleton]
  have raised : (cutOver (n :: l) m s).notes.raised = (cutOver l m (cutOver [n] m s)).notes.raised := by
    change s.notes.raised ++ (n :: l).filterMap (cutNotice m s) =
      s.notes.raised ++ [n].filterMap (cutNotice m s) ++ l.filterMap (cutNotice m (cutOver [n] m s))
    rw [notice, List.append_assoc, ← List.filterMap_append, List.singleton_append]
  refine (cutOver_parts (n :: l) m s).trans (Eq.trans ?_ (cutOver_parts l m _).symm)
  rw [slots, cut, raised]
  generalize cutOver l m (cutOver [n] m s) = t
  simp only [cutOver, State.setCues, State.setNotes]

/-! ## The whole table -/

/-- R48, R99: a cutting write, slot after slot, leaves out the writing cue. -/
theorem cutBy_eq_cutOver (m : Half) (w : Option (Fin 48)) (s : State) :
    cutBy m w s = cutOver ((List.finRange 48).filter fun n => w != some n) m s := by
  have skips : cutSlot m w = fun s n => if w != some n then cutOver [n] m s else s := by
    funext s n
    by_cases e : w = some n
    · simp [cutSlot, e]
    · rw [if_pos (by simpa using e), ← cutSlot_eq_cutOver]
      simp [cutSlot, e]
  have fold : ∀ (l : List (Fin 48)) (s : State), l.Nodup → l.foldl (fun s n => cutOver [n] m s) s = cutOver l m s := by
    intro l
    induction l with
    | nil => exact fun s _ => (cutOver_of_disjoint (by simp)).symm
    | cons n l ih =>
      intro s hl
      obtain ⟨fresh, rest⟩ := List.nodup_cons.1 hl
      rw [List.foldl_cons, ih _ rest, cutOver_cons fresh]
  rw [cutBy, skips, ← List.foldl_filter, fold _ _ ((List.nodup_finRange 48).filter _)]

/-- R48, R99: a cutting write made by no cue, in the words of the statements. -/
theorem cutBy_none (m : Half) (s : State) : cutBy m none s = cutEverywhere m s := by
  rw [cutBy_eq_cutOver, show ((List.finRange 48).filter fun n => none != some n) = List.finRange 48 by simp]
  simp only [cutOver, cutEverywhere, List.mem_finRange, if_true]

/-- R48: what a cutting write leaves of each cue. -/
theorem cutBy_cueAt (m : Half) (w : Option (Fin 48)) (s : State) (n : Fin 48) :
    (cutBy m w s).cueAt n = if w = some n then s.cueAt n else (s.cueAt n).map (Cue.without m) := by
  rw [cutBy_eq_cutOver, cutOver_cueAt]
  by_cases e : w = some n
  · simp [e]
  · simp [e]

end Sys2Proof.OutputChannels
end

section
/-! PROOFS. What a pulse holds. -/

open Sys2Proof Sys2Proof.Machine

namespace Sys2Proof.OutputChannels

/-! ## Masks -/

theorem and_eq_zero_iff (a b : Half) : a &&& b = 0 ↔ ∀ i : Fin 16, a.getLsbD i.val = true → b.getLsbD i.val = false := by
  constructor
  · intro h i ha
    have bit := congrArg (·.getLsbD i.val) h
    simpa [ha] using bit
  · intro h
    apply BitVec.eq_of_getLsbD_eq
    intro i hi
    cases ha : a.getLsbD i with
    | false => simp [ha]
    | true => simp [h ⟨i, hi⟩ ha]

theorem getLsbD_andNot (a b : Half) (i : Fin 16) :
    (a &&& ~~~b).getLsbD i.val = (a.getLsbD i.val && !b.getLsbD i.val) := by
  simp only [BitVec.getLsbD_and, BitVec.getLsbD_not, i.isLt, decide_true, Bool.true_and]

theorem maskOf_getLsbD (p : Channel → Bool) (chans : Vector Channel 16) (i : Fin 16) :
    (maskOf p chans).getLsbD i.val = p chans[i] := by
  simp [maskOf]

/-- R43: which channels STANDIN owns. -/
theorem standinMask_getLsbD (s : State) (i : Fin 16) :
    (standinMask s).getLsbD i.val = (s.stand.state != .host && s.chans[i].owned) := by
  unfold standinMask
  split
  next host => simp [host]
  next away => rw [maskOf_getLsbD]; simp [away]

/-! ## The rules (R47 to R49, R84, R100) -/

/-- What O58 keeps. -/
def PulseRules (s : State) : Prop := TableEmptyInReset s ∧ PulsesSound s ∧ TrailingMasksHostOwned s

/-- The pulse in a slot, of an action, holds a channel until its trailing edge. -/
def Holds (s : State) (n : Fin 48) (i : Fin 16) (a : Action) : Prop :=
  ∃ c, s.cueAt n = some c ∧ c.pending.getLsbD i.val = true ∧ c.action = a

theorem setChans_cueAt (s : State) (x : Vector Channel 16) (n : Fin 48) : (s.setChans x).cueAt n = s.cueAt n := rfl

theorem holds_setChans (s : State) (x : Vector Channel 16) (n : Fin 48) (i : Fin 16) (a : Action) :
    Holds (s.setChans x) n i a ↔ Holds s n i a := Iff.rfl

/-- R100: the level that the leading edge of a pulse wrote. -/
def LedBy (a : Action) (l : Level) : Prop := (a = .pulseHigh ∧ l = .high) ∨ (a = .pulseLow ∧ l = .low)

theorem pulsesSound_iff (s : State) :
    PulsesSound s ↔ (∀ n m i a b, Holds s n i a → Holds s m i b → n = m) ∧
      ∀ n i a, Holds s n i a → LedBy a s.chans[i].level := by
  refine and_congr ⟨fun h n m i a b => ?_, fun h n m c d hnm hc hd => ?_⟩ ⟨fun h n i a => ?_, fun h n c i hc hi => ?_⟩
  · rintro ⟨c, hc, ci, -⟩ ⟨d, hd, di, -⟩
    by_contra hnm
    have free := (and_eq_zero_iff _ _).1 (h n m c d hnm hc hd) i ci
    exact absurd (di.symm.trans free) (by decide)
  · refine (and_eq_zero_iff _ _).2 fun i ci => Bool.not_eq_true _ ▸ fun di => hnm ?_
    exact h n m i c.action d.action ⟨c, hc, ci, rfl⟩ ⟨d, hd, di, rfl⟩
  · rintro ⟨c, hc, ci, rfl⟩
    exact h n c i hc ci
  · exact h n i c.action ⟨c, hc, hi, rfl⟩

theorem trailingMasksHostOwned_iff (s : State) :
    TrailingMasksHostOwned s ↔ ∀ n i a, Holds s n i a → (standinMask s).getLsbD i.val = false := by
  constructor
  · rintro h n i a ⟨c, hc, ci, -⟩
    exact (and_eq_zero_iff _ _).1 (h n c hc) i ci
  · intro h n c hc
    exact (and_eq_zero_iff _ _).2 fun i ci => h n i c.action ⟨c, hc, ci, rfl⟩

/-- R84: an empty table meets the rules. -/
theorem PulseRules.of_empty {s : State} (h : ∀ n, s.cueAt n = none) : PulseRules s := by
  have free : ∀ n i a, ¬Holds s n i a := by
    rintro n i a ⟨c, hc, -⟩
    rw [h n] at hc
    cases hc
  exact ⟨fun _ => h, (pulsesSound_iff s).2 ⟨fun n m i a b hn => absurd hn (free n i a), fun n i a hn => absurd hn (free n i a)⟩,
    (trailingMasksHostOwned_iff s).2 fun n i a hn => absurd hn (free n i a)⟩

/-! ## What the rules speak of -/

/-- The items that the rules speak of: phase, channels, slots, and whether the part is in stand-in. -/
def pulseItems (s : State) : Phase × Vector Channel 16 × Vector Slot 48 × StandState :=
  (s.sys.phase, s.chans, s.cues.slots, s.stand.state)

theorem PulseRules.congr {s t : State} (h : PulseRules s) (same : pulseItems t = pulseItems s) : PulseRules t := by
  simp only [pulseItems, Prod.mk.injEq] at same
  obtain ⟨phase, chans, slots, state⟩ := same
  have cue : t.cueAt = s.cueAt := by funext n; rw [State.cueAt, State.cueAt, slots]
  have mask : standinMask t = standinMask s := by rw [standinMask, standinMask, chans, state]
  simp only [PulseRules, TableEmptyInReset, PulsesSound, TrailingMasksHostOwned, phase, chans, cue, mask]
  exact h

/-- The rules at a ready port. -/
def InForce (s : State) : Prop := s.sys.phase = .ready ∧ PulseRules s

theorem InForce.congr {s t : State} (h : InForce s) (same : pulseItems t = pulseItems s) : InForce t :=
  ⟨(congrArg Prod.fst same).trans h.1, h.2.congr same⟩

theorem inForce_iff (s : State) :
    InForce s ↔ s.sys.phase = .ready ∧ (∀ n m i a b, Holds s n i a → Holds s m i b → n = m) ∧
      ∀ n i a, Holds s n i a → LedBy a s.chans[i].level ∧ (standinMask s).getLsbD i.val = false := by
  unfold InForce PulseRules
  rw [pulsesSound_iff, trailingMasksHostOwned_iff]
  refine and_congr_right fun ready => ⟨?_, ?_⟩
  · rintro ⟨-, ⟨apart, level⟩, owner⟩
    exact ⟨apart, fun n i a h => ⟨level n i a h, owner n i a h⟩⟩
  · rintro ⟨apart, rest⟩
    exact ⟨fun away => absurd ready away, ⟨apart, fun n i a h => (rest n i a h).1⟩, fun n i a h => (rest n i a h).2⟩

/-- The rules survive whatever lets no pulse hold a channel anew, and neither writes a held channel nor gives it to STANDIN. -/
theorem InForce.of_holds {s t : State} (h : InForce s) (phase : t.sys.phase = s.sys.phase)
    (kept : ∀ n i a, Holds t n i a → Holds s n i a ∧ t.chans[i].level = s.chans[i].level ∧
      ((standinMask s).getLsbD i.val = false → (standinMask t).getLsbD i.val = false)) : InForce t := by
  obtain ⟨ready, apart, rules⟩ := (inForce_iff s).1 h
  refine (inForce_iff t).2 ⟨phase.trans ready, fun n m i a b hn hm => ?_, fun n i a hn => ?_⟩
  · exact apart n m i a b (kept n i a hn).1 (kept m i b hm).1
  · obtain ⟨held, level, owner⟩ := kept n i a hn
    obtain ⟨led, host⟩ := rules n i a held
    exact ⟨level ▸ led, owner host⟩

@[simp] theorem pulseItems_setPort (s : State) (x : Port) : pulseItems (s.setPort x) = pulseItems s := rfl
@[simp] theorem pulseItems_setTime (s : State) (x : Timebase) : pulseItems (s.setTime x) = pulseItems s := rfl
@[simp] theorem pulseItems_setWard (s : State) (x : Warden) : pulseItems (s.setWard x) = pulseItems s := rfl
@[simp] theorem pulseItems_setStore (s : State) (x : Store) : pulseItems (s.setStore x) = pulseItems s := rfl
@[simp] theorem pulseItems_useFree (s : State) : pulseItems s.useFree = pulseItems s := rfl
@[simp] theorem pulseItems_meetInputs (pins : InPins) (s : State) : pulseItems (meetInputs pins s) = pulseItems s := rfl
@[simp] theorem pulseItems_settle (s : State) : pulseItems (settle s) = pulseItems s := rfl
@[simp] theorem pulseItems_raise (c : NoticeClass) (h t d : Half) (s : State) :
    pulseItems (raise c h t d s) = pulseItems s := rfl
@[simp] theorem pulseItems_queueJournal (k : JournalKind) (d : Byte) (s : State) :
    pulseItems (queueJournal k d s) = pulseItems s := by simp [pulseItems]
@[simp] theorem pulseItems_takeUpJournal (s : State) : pulseItems (takeUpJournal s) = pulseItems s := by simp [pulseItems]

theorem pulseItems_setStand {s : State} {x : StandIn} (h : x.state = s.stand.state) :
    pulseItems (s.setStand x) = pulseItems s := by
  simp [pulseItems, h]

theorem pulseItems_setCues {s : State} {x : CueTable} (h : x.slots = s.cues.slots) :
    pulseItems (s.setCues x) = pulseItems s := by
  simp [pulseItems, h]

/-! ## Cues in their slots -/

@[simp] theorem setCue_sys (s : State) (n : Fin 48) (c : Cue) : (s.setCue n c).sys = s.sys := rfl
@[simp] theorem setCue_chans (s : State) (n : Fin 48) (c : Cue) : (s.setCue n c).chans = s.chans := rfl
@[simp] theorem setCue_stand (s : State) (n : Fin 48) (c : Cue) : (s.setCue n c).stand = s.stand := rfl

/-- A cue is put in a slot that holds no channel, or keeps what the cue of the slot held. -/
theorem InForce.setCue {s : State} (h : InForce s) (n : Fin 48) (d : Cue)
    (kept : d.pending = 0 ∨ ∃ c, s.cueAt n = some c ∧ d.pending = c.pending ∧ d.action = c.action) :
    InForce (s.setCue n d) := by
  refine h.of_holds rfl fun m i a => ?_
  rintro ⟨e, he, ei, ea⟩
  refine ⟨?_, rfl, id⟩
  by_cases hm : n = m
  · subst hm
    obtain rfl : d = e := by simpa using he
    rcases kept with none | ⟨c, hc, pending, action⟩
    · simp [none] at ei
    · exact ⟨c, hc, pending ▸ ei, action.symm.trans ea⟩
  · rw [State.setCue_cueAt_other _ _ _ _ hm] at he
    exact ⟨e, he, ei, ea⟩

theorem InForce.freeSlot {s : State} (h : InForce s) (n : Fin 48) : InForce (freeSlot n s) := by
  refine h.of_holds rfl fun m i a => ?_
  rintro ⟨e, he, ei, ea⟩
  rw [freeSlot_cueAt] at he
  split at he
  · cases he
  · exact ⟨⟨e, he, ei, ea⟩, rfl, id⟩

@[simp] theorem pulseItems_place (n : Fin 48) (s : State) : pulseItems (place n s) = pulseItems s := by
  simp [pulseItems]

theorem InForce.place {s : State} (h : InForce s) (n : Fin 48) : InForce (place n s) := h.congr (pulseItems_place n s)

/-! ## Series and the late rule -/

theorem InForce.endSeries {s : State} (h : InForce s) (n : Fin 48) (cause : Nat) : InForce (endSeries n cause s) := by
  unfold Machine.endSeries
  split
  next => exact h
  next c hc =>
    have told : ∀ d, InForce (if c.notifyEnd then raise .seriesEnd (handleOf s n) c.tag d s else s) := by
      intro d
      split
      · exact h.congr rfl
      · exact h
    dsimp only
    split
    · exact ((told _).congr rfl).setCue n _ (.inl rfl)
    · exact (told _).freeSlot n

theorem InForce.reschedule {s : State} (h : InForce s) (n : Fin 48) : InForce (reschedule n s) := by
  unfold Machine.reschedule
  split
  next => exact h
  next c hc =>
    split
    next => exact h
    next old hs => exact (h.setCue n _ (.inl rfl)).place n

theorem InForce.completeOccurrence {s : State} (h : InForce s) (n : Fin 48) : InForce (completeOccurrence n s) := by
  unfold Machine.completeOccurrence
  split
  next => exact h
  next c hc =>
    split
    · have counted := h.setCue n { c with begun := true, remaining := c.remaining - 1 } (.inr ⟨c, hc, rfl, rfl⟩)
      dsimp only
      split
      · exact counted.endSeries n 0
      · exact counted.reschedule n
    · exact (h.setCue n { c with begun := true } (.inr ⟨c, hc, rfl, rfl⟩)).reschedule n

@[simp] theorem pulseItems_missOccurrences (n : Fin 48) (c : Cue) (missed : Nat) (s : State) :
    pulseItems (missOccurrences n c missed s) = pulseItems s := by
  unfold missOccurrences
  split
  · rfl
  · exact (pulseItems_raise ..).trans (pulseItems_setCues rfl)

theorem InForce.lateRule {s : State} (h : InForce s) (n : Fin 48) (saturated : Bool) : InForce (lateRule n saturated s).state := by
  unfold Machine.lateRule
  split
  next => exact h
  next c hc =>
    cases c.wait with
    | inPulse trail sched mask ending => exact h
    | hooked => exact h
    | armed due sched overdue =>
      have missed (due sched : Tick) (begun : Bool) (left : Half) (k : Nat) : InForce (missOccurrences n c k
          (s.setCue n { c with wait := .armed due sched false, begun := begun, remaining := left })) :=
        (h.setCue n _ (.inl rfl)).congr (pulseItems_missOccurrences ..)
      cases c.late with
      | fire => exact (missed _ _ _ _ _).place n
      | skip =>
        dsimp only [lateSkip]
        generalize (if c.limited = true then c.remaining - halfN _ else c.remaining) = left
        split
        · exact (missed _ _ _ _ _).endSeries n 2
        · exact (missed _ _ _ _ _).place n

end Sys2Proof.OutputChannels
end

section
/-! PROOFS. Pulses through a tick. -/

open Sys2Proof Sys2Proof.Machine

namespace Sys2Proof.OutputChannels

/-! ## Drives (R44, R47, R48) -/

/-- R48: a cutting write leaves its channels to no pulse but the writing cue's. -/
theorem cutBy_holds (m : Half) (w : Option (Fin 48)) (s : State) (n : Fin 48) (i : Fin 16) (a : Action) :
    Holds (cutBy m w s) n i a ↔ Holds s n i a ∧ (m.getLsbD i.val = true → w = some n) := by
  unfold Holds
  rw [cutBy_cueAt]
  by_cases hw : w = some n
  · simp [hw]
  · rw [if_neg hw]
    constructor
    · rintro ⟨d, hd, di, da⟩
      obtain ⟨c, hc, rfl⟩ := Option.map_eq_some_iff.1 hd
      rw [pending_without, getLsbD_andNot, Bool.and_eq_true, Bool.not_eq_true'] at di
      exact ⟨⟨c, hc, di.1, (action_without m c).symm.trans da⟩, fun hm => absurd (hm.symm.trans di.2) (by decide)⟩
    · rintro ⟨⟨c, hc, ci, ca⟩, hm⟩
      have free : m.getLsbD i.val = false := Bool.not_eq_true _ ▸ fun e => hw (hm e)
      exact ⟨c.without m, by rw [hc]; rfl, by rw [pending_without, getLsbD_andNot, ci, free]; rfl,
        (action_without m c).trans ca⟩

theorem standinMask_congr {s t : State} (state : t.stand.state = s.stand.state)
    (owned : ∀ i : Fin 16, t.chans[i].owned = s.chans[i].owned) : standinMask t = standinMask s := by
  apply BitVec.eq_of_getLsbD_eq
  intro i hi
  have bit (u : State) := standinMask_getLsbD u ⟨i, hi⟩
  simp only at bit
  rw [bit, bit, state, owned]

theorem writeMask_owned (m : Half) (k : LevelKind) (chans : Vector Channel 16) (i : Fin 16) :
    (writeMask m k chans)[i].owned = chans[i].owned := by
  rw [writeMask_getElem]
  split <;> rfl

theorem writeMask_level_of_unwritten {m : Half} {i : Fin 16} (h : m.getLsbD i.val = false) (k : LevelKind)
    (chans : Vector Channel 16) : (writeMask m k chans)[i].level = chans[i].level := by
  rw [writeMask_getElem, h, if_neg Bool.false_ne_true]

theorem driveAndCut_cueAt (m : Half) (k : LevelKind) (w : Option (Fin 48)) (s : State) (n : Fin 48) :
    (driveAndCut m k w s).cueAt n = if w = some n then s.cueAt n else (s.cueAt n).map (Cue.without m) :=
  (cutBy_cueAt m w _ n).trans (by rw [setChans_cueAt])

theorem driveAndCut_holds (m : Half) (k : LevelKind) (w : Option (Fin 48)) (s : State) (n : Fin 48) (i : Fin 16)
    (a : Action) : Holds (driveAndCut m k w s) n i a ↔ Holds s n i a ∧ (m.getLsbD i.val = true → w = some n) := by
  rw [driveAndCut, cutBy_holds, holds_setChans]

theorem standinMask_driven (m : Half) (k : LevelKind) (w : Option (Fin 48)) (s : State) :
    standinMask (driveAndCut m k w s) = standinMask s :=
  standinMask_congr (by simp [driveAndCut]) fun i => by simp only [driveAndCut, cutBy_chans, State.setChans_chans, writeMask_owned]

/-- R47, R48: a cue that drives channels, and holds none of them, or a write made by no cue. -/
theorem InForce.driveAndCut {s : State} (h : InForce s) (m : Half) (k : LevelKind) (w : Option (Fin 48))
    (writer : ∀ n i a, w = some n → Holds s n i a → m.getLsbD i.val = false) : InForce (driveAndCut m k w s) := by
  refine h.of_holds (by simp [Machine.driveAndCut]) fun n i a hn => ?_
  obtain ⟨held, spared⟩ := (driveAndCut_holds m k w s n i a).1 hn
  have free : m.getLsbD i.val = false := Bool.not_eq_true _ ▸ fun e =>
    absurd (e.symm.trans (writer n i a (spared e) held)) (by decide)
  refine ⟨held, ?_, fun host => (standinMask_driven m k w s).symm ▸ host⟩
  simp only [Machine.driveAndCut, cutBy_chans, State.setChans_chans]
  exact writeMask_level_of_unwritten free k s.chans

/-! ## Trailing edges (R86) -/

@[simp] theorem pulseItems_countMasked (m : Half) (s : State) : pulseItems (countMasked m s) = pulseItems s := rfl

@[simp] theorem countMasked_sys (m : Half) (s : State) : (countMasked m s).sys = s.sys := rfl
@[simp] theorem countMasked_chans (m : Half) (s : State) : (countMasked m s).chans = s.chans := rfl
@[simp] theorem countMasked_standState (m : Half) (s : State) : (countMasked m s).stand.state = s.stand.state := rfl

theorem countMasked_cueAt (m : Half) (s : State) (n : Fin 48) : (countMasked m s).cueAt n = s.cueAt n := rfl

/-- R86, R100: the trailing edge writes channels that no other pulse holds, and its own pulse holds none any more. -/
theorem InForce.trailingWrite {s : State} (h : InForce s) {n : Fin 48} {c : Cue} (hc : s.cueAt n = some c) {m : Half}
    (own : ∀ i : Fin 16, m.getLsbD i.val = true → c.pending.getLsbD i.val = true) (k : LevelKind) (masked : Half) {d : Cue}
    (hd : d.pending = 0) : InForce ((countMasked masked (s.setChans (writeMask m k s.chans))).setCue n d) := by
  obtain ⟨-, apart, -⟩ := (inForce_iff s).1 h
  have mask : standinMask ((countMasked masked (s.setChans (writeMask m k s.chans))).setCue n d) = standinMask s :=
    standinMask_congr (by simp) fun i => by simp only [setCue_chans, countMasked_chans, State.setChans_chans, writeMask_owned]
  refine h.of_holds (by simp) fun j i a => ?_
  rintro ⟨e, he, ei, ea⟩
  by_cases hj : n = j
  · subst hj
    obtain rfl : d = e := by simpa using he
    simp [hd] at ei
  · rw [State.setCue_cueAt_other _ _ _ _ hj, countMasked_cueAt, setChans_cueAt] at he
    have held : Holds s j i a := ⟨e, he, ei, ea⟩
    have free : m.getLsbD i.val = false :=
      Bool.not_eq_true _ ▸ fun hm => hj (apart n j i c.action a ⟨c, hc, own i hm, rfl⟩ held)
    refine ⟨held, ?_, fun host => by rw [mask, host]⟩
    rw [setCue_chans, countMasked_chans, State.setChans_chans, writeMask_level_of_unwritten free]

theorem InForce.trailingEdge {s : State} (h : InForce s) (n : Fin 48) : InForce (trailingEdge n s) := by
  unfold Machine.trailingEdge
  split
  next => exact h
  next c hc =>
    cases hw : c.wait with
    | armed due sched overdue => exact h
    | hooked => exact h
    | inPulse trail sched mask ending =>
      have own : ∀ i : Fin 16, (mask &&& ~~~standinMask s).getLsbD i.val = true → c.pending.getLsbD i.val = true := by
        intro i hi
        rw [getLsbD_andNot, Bool.and_eq_true] at hi
        simp only [Cue.pending, hw]
        exact hi.1
      have written (k : LevelKind) (masked : Half) :=
        h.trailingWrite hc own k masked (d := { c with wait := .inPulse trail sched 0 ending }) rfl
      dsimp only
      split
      · exact (written _ _).freeSlot n
      · exact (written _ _).completeOccurrence n

/-! ## Leading actions (R90 to R97) -/

@[simp] theorem pulseItems_countFired (n : Fin 48) (c : Cue) (b : Bool) (s : State) :
    pulseItems (countFired n c b s) = pulseItems s := by
  unfold countFired
  split
  · exact (pulseItems_raise ..).trans (pulseItems_setCues rfl)
  · exact pulseItems_setCues rfl

/-- R64: the leading edge of a pulse writes the level that the pulse holds. -/
theorem ledBy_leading {a : Action} {k : LevelKind} (pulse : a.pulse = true) (leading : a.leading = some k) (l : Level) :
    LedBy a (resulting k l) := by
  cases a
  case pulseHigh => cases leading; exact .inl ⟨rfl, rfl⟩
  case pulseLow => cases leading; exact .inr ⟨rfl, rfl⟩
  all_goals cases pulse

theorem LedBy.pulse {a : Action} {l : Level} (h : LedBy a l) : a.pulse = true := by
  rcases h with ⟨rfl, -⟩ | ⟨rfl, -⟩
  · rfl
  · rfl

/-- R95, R100: a pulse begins on channels of the host, and holds them at the level of its leading edge. -/
theorem InForce.pulseBegins {s : State} (h : InForce s) {n : Fin 48} {a : Action} {k : LevelKind} (pulse : a.pulse = true)
    (leading : a.leading = some k) {m : Half} (host : ∀ i : Fin 16, m.getLsbD i.val = true → (standinMask s).getLsbD i.val = false)
    (masked : Half) {d : Cue} (pending : d.pending = m) (action : d.action = a) :
    InForce ((countMasked masked (Machine.driveAndCut m k (some n) s)).setCue n d) := by
  obtain ⟨ready, apart, rules⟩ := (inForce_iff s).1 h
  -- a channel is held by the new pulse, or as before and not driven
  have held : ∀ j i b, Holds ((countMasked masked (Machine.driveAndCut m k (some n) s)).setCue n d) j i b →
      (j = n ∧ b = a ∧ m.getLsbD i.val = true) ∨ (Holds s j i b ∧ m.getLsbD i.val = false) := by
    rintro j i b ⟨e, he, ei, eb⟩
    by_cases hj : n = j
    · subst hj
      obtain rfl : d = e := by simpa using he
      exact .inl ⟨rfl, eb.symm.trans action, pending ▸ ei⟩
    · rw [State.setCue_cueAt_other _ _ _ _ hj, countMasked_cueAt] at he
      obtain ⟨before, spared⟩ := (driveAndCut_holds m k (some n) s j i b).1 ⟨e, he, ei, eb⟩
      exact .inr ⟨before, Bool.not_eq_true _ ▸ fun e => hj (Option.some.inj (spared e))⟩
  have mask : standinMask ((countMasked masked (Machine.driveAndCut m k (some n) s)).setCue n d) = standinMask s :=
    (standinMask_congr (by simp) fun i => by simp).trans (standinMask_driven m k (some n) s)
  have chans : ((countMasked masked (Machine.driveAndCut m k (some n) s)).setCue n d).chans = writeMask m k s.chans := by
    simp [Machine.driveAndCut]
  refine (inForce_iff _).2 ⟨by simpa [Machine.driveAndCut] using ready,
    fun j l i b b' hj hl => ?_, fun j i b hj => ?_⟩
  · rcases held j i b hj with ⟨rfl, -, on⟩ | ⟨hj, off⟩ <;> rcases held l i b' hl with ⟨rfl, -, on'⟩ | ⟨hl, off'⟩
    · rfl
    · exact absurd (on.symm.trans off') (by decide)
    · exact absurd (on'.symm.trans off) (by decide)
    · exact apart j l i b b' hj hl
  · rw [mask, chans]
    rcases held j i b hj with ⟨rfl, rfl, on⟩ | ⟨hj, off⟩
    · rw [writeMask_getElem, if_pos on]
      exact ⟨ledBy_leading pulse leading _, host i on⟩
    · rw [writeMask_level_of_unwritten off]
      exact rules j i b hj

theorem InForce.fireAction {s : State} (h : InForce s) {n : Fin 48} {c : Cue} (hc : s.cueAt n = some c) (led : Led) :
    InForce (fireAction n c s led).1 := by
  have fired {t : State} (ht : InForce t) (cue : t.cueAt n = some c) (notify : Bool) :
      InForce (Machine.completeOccurrence n (countFired n c notify (t.setCue n { c with fired := c.fired + 1 }))) :=
    have counted : InForce (t.setCue n { c with fired := c.fired + 1 }) := ht.setCue n _ (.inr ⟨c, cue, rfl, rfl⟩)
    (counted.congr (pulseItems_countFired n c notify _)).completeOccurrence n
  unfold Machine.fireAction
  split
  next => exact fired h hc true
  next k leading =>
    have host : ∀ i : Fin 16, (c.mask &&& ~~~standinMask s).getLsbD i.val = true → (standinMask s).getLsbD i.val = false := by
      intro i hi
      rw [getLsbD_andNot, Bool.and_eq_true, Bool.not_eq_true'] at hi
      exact hi.2
    dsimp only
    split
    next pulse =>
      have begun (masked : Half) (trail sched : Tick) := h.pulseBegins (n := n) pulse leading host masked
        (d := { c with wait := .inPulse trail sched (c.mask &&& ~~~standinMask s) false, fired := c.fired + 1 }) rfl rfl
      exact ((begun _ _ _).place n).congr (pulseItems_countFired ..)
    next plain =>
      -- no pulse, so the cue holds no channel
      have writer : ∀ j i a, some n = some j → Holds s j i a → (c.mask &&& ~~~standinMask s).getLsbD i.val = false := by
        intro j i a writing held
        cases writing
        obtain ⟨-, -, rules⟩ := (inForce_iff s).1 h
        have pulse := (rules n i a held).1.pulse
        obtain ⟨d, hd, -, rfl⟩ := held
        obtain rfl : c = d := Option.some.inj (hc.symm.trans hd)
        exact absurd pulse plain
      have driven := h.driveAndCut _ k (some n) writer
      refine fired (driven.congr (pulseItems_countMasked ..)) ?_ c.notifyFire
      rw [countMasked_cueAt, driveAndCut_cueAt, if_pos rfl, hc]

theorem InForce.skipOccurrence {s : State} (h : InForce s) (n : Fin 48) (c : Cue) : InForce (skipOccurrence n c s) := by
  unfold Machine.skipOccurrence
  have counted := h.congr (pulseItems_setCues (x := { s.cues with skipped := s.cues.skipped + 1 }) rfl)
  refine InForce.completeOccurrence ?_ n
  split
  · exact counted.congr (pulseItems_raise ..)
  · exact counted

theorem InForce.leadingAction {p : State × Led} (h : InForce p.1) (n : Fin 48) : InForce (leadingAction n p).1 := by
  unfold Machine.leadingAction
  split
  next => exact h
  next c hc =>
    split
    · exact h.fireAction hc p.2
    · split
      · exact h.endSeries n 1
      · exact h.skipOccurrence n c

/-! ## The cue stage (R85) -/

theorem InForce.markOverdue {s : State} (h : InForce s) (n : Fin 48) : InForce (markOverdue n s) := by
  unfold Machine.markOverdue
  split
  next => exact h
  next c hc =>
    cases c.wait with
    | armed due sched overdue => exact h.setCue n _ (.inl rfl)
    | inPulse trail sched mask ending => exact h
    | hooked => exact h

theorem InForce.cueStage {s : State} (h : InForce s) : InForce (cueStage s) := by
  have passed := List.foldlRecOn (s.cues.due.filter (overdueDue s)) (fun s n => Machine.markOverdue n s) h
    fun t ht n _ => ht.markOverdue n
  have trailed := List.foldlRecOn (s.cues.due.filter (trailingDue s)) (fun s n => Machine.trailingEdge n s) passed
    fun t ht n _ => ht.trailingEdge n
  have led := List.foldlRecOn (motive := fun p : State × Led => InForce p.1) (s.cues.due.filter (leadingDue s))
    (fun p n => Machine.leadingAction n p) (b := (_, Led.start)) trailed fun p hp n _ => InForce.leadingAction hp n
  unfold Machine.cueStage reportConflict
  dsimp only
  split
  · exact led
  · exact led.congr ((pulseItems_raise ..).trans (pulseItems_setCues rfl))

/-! ## The edge stage (R102, R103, R112 to R120) -/

theorem InForce.hookSlot {s : State} (h : InForce s) (line : Fin 8) (rising : Bool) (n : Fin 48) :
    InForce (hookSlot line rising s n) := by
  unfold Machine.hookSlot
  split
  next => exact h
  next c hc =>
    split
    next => exact h
    next hl he delay _ =>
      have armed (due : Tick) := (h.setCue n { c with wait := .armed due due false } (.inl rfl)).place n
      dsimp only
      split
      · split
        · exact armed _
        · split
          · exact armed _
          · exact h
        · exact h
      · exact h

theorem InForce.hookEdge {s : State} (h : InForce s) (line : Fin 8) (rising : Bool) : InForce (hookEdge line rising s) :=
  List.foldlRecOn _ _ h fun _ ht n _ => ht.hookSlot line rising n

@[simp] theorem pulseItems_logEdge (line : Fin 8) (rising : Bool) (s : State) :
    pulseItems (logEdge line rising s) = pulseItems s := by
  unfold logEdge
  split
  · split
    · simp only [storeEdge]
      split <;> rfl
    · simp only [overflowEdge]
      split <;> rfl
  · rfl

theorem InForce.qualifyEdge {s : State} (h : InForce s) (n : Fin 8) : InForce (qualifyEdge n s) := by
  unfold Machine.qualifyEdge
  split
  next => exact h
  next rising _ => 
    have turned : InForce (s.setLine n { s.edges.lines[n] with filtered := if rising then .high else .low }) := h.congr rfl
    exact (turned.congr (pulseItems_logEdge ..)).hookEdge n rising

theorem InForce.sampleLine {s : State} (h : InForce s) (n : Fin 8) : InForce (sampleLine s n) := by
  unfold Machine.sampleLine
  dsimp only
  split
  · exact h.congr rfl
  · have sampled : InForce (s.setLine n (s.edges.lines[n].sample (s.pins.inputs.ins.getLsbD n.val))) := h.congr rfl
    exact sampled.qualifyEdge n

theorem InForce.edgeStage {s : State} (h : InForce s) : InForce (edgeStage s) :=
  List.foldlRecOn _ _ h fun _ ht n _ => ht.sampleLine n

/-! ## The stand-in stage (R168, R169) -/

theorem InForce.applyStep {s : State} (h : InForce s) (x : ProgramStep) : InForce (applyStep s x) :=
  h.driveAndCut _ x.kind none fun _ _ _ e => nomatch e

/-- R43, R169: STANDIN owns its channels in every state but HOST. -/
theorem InForce.standinState {s : State} (h : InForce s) (x : StandIn) (away : s.stand.state ≠ .host) :
    InForce (s.setStand x) := by
  refine h.of_holds rfl fun n i a held => ⟨held, rfl, fun host => ?_⟩
  rw [standinMask_getLsbD] at host ⊢
  rw [bne_iff_ne.2 away, Bool.true_and] at host
  change (_ && s.chans[i].owned) = false
  rw [host, Bool.and_false]

theorem InForce.cycleEnd {s : State} (h : InForce s) (due : cycleEndDue s = true) : InForce (cycleEnd s) := by
  unfold Machine.cycleEnd
  split
  next => exact h
  next x active =>
    have away : s.stand.state ≠ .host := fun host => by simp [cycleEndDue, active, host] at due
    split
    · exact h.standinState _ away
    · exact h.standinState _ away

theorem InForce.standStage {s : State} (h : InForce s) : InForce (standStage s) := by
  unfold Machine.standStage
  split
  · split
    · exact h
    next x _ =>
      have steps := List.foldlRecOn (x.steps.filter fun y => y.offset == s.stand.pos) Machine.applyStep h
        fun _ ht y _ => ht.applyStep y
      unfold advance
      split
      next due => exact steps.cycleEnd due
      next => exact steps.congr rfl
  · exact h

theorem InForce.tickStages {s : State} (h : InForce s) : InForce (tickStages s) := by
  have counted : pulseItems (countTick s) = pulseItems s := by
    unfold countTick countFrozen
    split <;> rfl
  exact (h.congr counted).edgeStage.cueStage.standStage.congr (pulseItems_settle _)

end Sys2Proof.OutputChannels
end

section
/-! PROOFS. Pulses through stand-in, the warden and the store. -/

open Sys2Proof Sys2Proof.Machine

namespace Sys2Proof.OutputChannels

/-! ## Stand-in entry and return (R49, R161, R162, R173) -/

theorem Holds.of_slots {s t : State} (same : t.cues.slots = s.cues.slots) {n : Fin 48} {i : Fin 16} {a : Machine.Action}
    (h : Holds t n i a) : Holds s n i a := by
  obtain ⟨c, hc, held⟩ := h
  exact ⟨c, by rw [State.cueAt, ← same]; exact hc, held⟩

theorem writeSafe_getElem (m : Half) (chans : Vector Channel 16) (i : Fin 16) :
    (writeSafe m chans)[i] =
      if m.getLsbD i.val = true then { chans[i] with level := resulting chans[i].safe.kind chans[i].level }
      else chans[i] := by
  simp [writeSafe]

theorem standinMask_entryDrive (s : State) : standinMask (entryDrive s) = standinMask s := by
  refine standinMask_congr (by simp) fun i => ?_
  rw [entryDrive, cutBy_chans, State.setChans_chans, writeSafe_getElem]
  split <;> rfl

/-- R49, R162 step 4: the entry cuts the channels that STANDIN now owns, and writes no other. -/
theorem entryDrive_holds {s : State} {n : Fin 48} {i : Fin 16} {a : Machine.Action} (h : Holds (entryDrive s) n i a) :
    Holds s n i a ∧ (entryDrive s).chans[i].level = s.chans[i].level ∧ (standinMask s).getLsbD i.val = false := by
  rw [entryDrive, cutBy_holds, holds_setChans] at h
  obtain ⟨held, spared⟩ := h
  have free : (standinMask s).getLsbD i.val = false := Bool.not_eq_true _ ▸ fun e => nomatch spared e
  refine ⟨held, ?_, free⟩
  rw [entryDrive, cutBy_chans, State.setChans_chans, writeSafe_getElem, free, if_neg Bool.false_ne_true]

@[simp] theorem pulseItems_entryImage (s : State) : pulseItems (entryImage s) = pulseItems s := pulseItems_setStand rfl

theorem InForce.enterStandin {s : State} (h : InForce s) (c : Cause) : InForce (enterStandin c s) := by
  have driven : InForce (entryDrive (entryStart c s)) := by
    refine h.of_holds (by simp) fun n i a hn => ?_
    obtain ⟨held, level, host⟩ := entryDrive_holds hn
    rw [entryStart_chans] at level
    exact ⟨held.of_slots (by rw [entryStart_cues]), level, fun _ => by rw [standinMask_entryDrive, host]⟩
  exact driven.congr (by simp [Machine.enterStandin])

theorem InForce.requestStandin {s : State} (h : InForce s) (c : Cause) : InForce (requestStandin c s) := by
  unfold Machine.requestStandin
  split
  · exact h.enterStandin c
  · exact h.congr (pulseItems_setStand rfl)

@[simp] theorem pulseItems_evaluateBanks (s : State) : pulseItems (evaluateBanks s) = pulseItems s :=
  pulseItems_setStand rfl

@[simp] theorem pulseItems_wantEvaluation (s : State) : pulseItems (wantEvaluation s) = pulseItems s := by
  unfold wantEvaluation
  split
  · exact pulseItems_evaluateBanks s
  · exact pulseItems_setStand rfl

/-- R43: in HOST no channel is owned by STANDIN. -/
theorem InForce.returnToHost {s : State} (h : InForce s) : InForce (returnToHost s) := by
  have left : InForce (leaveStandin s) := by
    refine h.of_holds rfl fun n i a held => ⟨held, rfl, fun _ => ?_⟩
    rw [standinMask_getLsbD]
    rfl
  have evaluated : pulseItems (evaluateAtReturn (leaveStandin s)) = pulseItems (leaveStandin s) := by
    unfold evaluateAtReturn
    split
    · exact pulseItems_evaluateBanks _
    · rfl
  exact left.congr (by simp [Machine.returnToHost, evaluated])

/-! ## The warden (R143, R148, R149) -/

theorem InForce.wardenResponse {s : State} (h : InForce s) : InForce (wardenResponse s) := by
  have requested : InForce (if s.ward.respStandin then Machine.requestStandin .warden s else s) := by
    split
    · exact h.requestStandin .warden
    · exact h
  have pulsed (t : State) : pulseItems (if t.ward.respHrst then startHrst t else t) = pulseItems t := by
    split
    · exact pulseItems_setWard ..
    · rfl
  exact requested.congr ((pulseItems_setWard ..).trans (pulsed _))

theorem InForce.wardenFault {s : State} (h : InForce s) (k : FaultKind) : InForce (wardenFault k s) := by
  have recorded : InForce (recordFault k s) := h.congr (by simp [recordFault])
  simp only [Machine.wardenFault]
  split
  · exact recorded.wardenResponse
  · exact recorded

theorem InForce.wardenTimeout {s : State} (h : InForce s) : InForce (wardenTimeout s) :=
  (h.wardenFault .late).congr (pulseItems_setWard ..)

/-! ## The store engine (R177, R178, R182, R184, R191) -/

@[simp] theorem pulseItems_land (takes : Bool) (base : Nat) (data : List Byte) (behind : Nat) (s : State) :
    pulseItems (land takes base data behind s) = pulseItems s := rfl

@[simp] theorem pulseItems_goIdle (s : State) : pulseItems (goIdle s) = pulseItems s := by simp [goIdle]

@[simp] theorem pulseItems_programComplete (takes : Bool) (s : State) :
    pulseItems (programComplete takes s) = pulseItems s := by
  unfold programComplete
  split
  · simp only [endProgram, pulseItems_goIdle]
    split
    · rw [pulseItems_wantEvaluation]
      split <;> simp
    · split <;> simp
  all_goals rfl

@[simp] theorem pulseItems_appendComplete (takes : Bool) (s : State) :
    pulseItems (appendComplete takes s) = pulseItems s := by
  unfold appendComplete
  split
  · simp only [endAppend, pulseItems_goIdle]
    split <;> simp
  all_goals rfl

@[simp] theorem pulseItems_wipeStepComplete (takes : Bool) (s : State) :
    pulseItems (wipeStepComplete takes s) = pulseItems s := by
  unfold wipeStepComplete
  split
  · simp only [endWipeStep]
    split <;> simp
  all_goals rfl

@[simp] theorem pulseItems_wipeComplete (s : State) : pulseItems (wipeComplete s) = pulseItems s := by
  unfold wipeComplete
  split
  · simp [endWipe]
  all_goals rfl

@[simp] theorem pulseItems_storeStep (busy takes : Bool) (s : State) :
    pulseItems (storeStep busy takes s) = pulseItems s := by
  rw [storeStep, pulseItems_takeUpJournal]
  unfold advanceStore
  repeat' split
  all_goals simp

/-! ## The warden-millisecond event (R38) -/

@[simp] theorem pulseItems_clockStep (xinEdge : Bool) (s : State) : pulseItems (clockStep xinEdge s) = pulseItems s := by
  simp only [clockStep]
  split
  · simp [substitute, updateHistory]
  · rfl

@[simp] theorem pulseItems_countFsafe (s : State) : pulseItems (countFsafe s) = pulseItems s := by
  unfold countFsafe
  split
  · exact pulseItems_setWard ..
  · rfl

theorem InForce.fsafeAssert {s : State} (h : InForce s) : InForce (fsafeAssert s) :=
  (h.congr (pulseItems_setWard ..)).requestStandin .fsafe

theorem InForce.fsafeStep {s : State} (h : InForce s) : InForce (fsafeStep s) := by
  unfold Machine.fsafeStep
  split
  · exact h
  · split
    · exact h.fsafeAssert
    · split
      · exact h.congr (by simp [fsafeClear])
      · exact h.congr (by simp)

theorem InForce.wardenStep {s : State} (h : InForce s) : InForce (wardenStep s) := by
  unfold Machine.wardenStep
  split
  · exact h
  · split
    · exact h.wardenTimeout
    · exact h.congr (pulseItems_setWard ..)

@[simp] theorem pulseItems_hrstStep (started : Bool) (s : State) : pulseItems (hrstStep started s) = pulseItems s := by
  unfold hrstStep
  split
  · rfl
  · exact pulseItems_setWard ..

@[simp] theorem pulseItems_windowStep (s : State) : pulseItems (windowStep s) = pulseItems s := by
  unfold windowStep
  repeat' split
  all_goals rfl

theorem InForce.wardenMsSteps {s : State} (h : InForce s) (ms : MsInputs) : InForce (wardenMsSteps ms s) := by
  have monitored : InForce (clockStep ms.xinEdge (countMs s)) := h.congr (by simp [countMs])
  exact monitored.fsafeStep.wardenStep.congr (by simp [Machine.wardenMsSteps])

end Sys2Proof.OutputChannels
end

section
/-! PROOFS. Pulses through the commands. -/

open Sys2Proof Sys2Proof.Machine

namespace Sys2Proof.OutputChannels

/-- Whatever its parameters, a command keeps the rules. -/
def KeepsRules (cmd : Command) : Prop := ∀ params s, InForce s → InForce (cmd.body params s).state

/-- A command that changes none of the items that the rules speak of. -/
theorem KeepsRules.of_items {cmd : Command} (h : ∀ params s, pulseItems (cmd.body params s).state = pulseItems s) :
    KeepsRules cmd := fun params s hs => hs.congr (h params s)

/-! ## Groups that leave channels and cues alone -/

theorem sysCommand_keepsRules {code : Byte} {cmd : Command} (h : sysCommand code = some cmd) : KeepsRules cmd := by
  refine .of_items fun params s => ?_
  unfold sysCommand at h
  repeat' split at h
  all_goals cases h
  all_goals
    simp only [plain, request, cmdSysStatus, cmdSysIdentify, cmdSysCause, cmdSysResetReq, cmdSysResetConfirm, cmdSysUnstick]
    repeat' split
    all_goals rfl

theorem timeCommand_keepsRules {code : Byte} {cmd : Command} (h : timeCommand code = some cmd) : KeepsRules cmd := by
  refine .of_items fun params s => ?_
  unfold timeCommand at h
  repeat' split at h
  all_goals cases h
  all_goals
    simp only [plain, cmdTimeRead, cmdTimeRun, cmdTimeStop, cmdTimeSet, cmdTimeRate, cmdTimeRestore]
    repeat' split
    all_goals rfl

theorem edgeCommand_keepsRules {code : Byte} {cmd : Command} (h : edgeCommand code = some cmd) : KeepsRules cmd := by
  refine .of_items fun params s => ?_
  unfold edgeCommand at h
  repeat' split at h
  all_goals cases h
  all_goals
    simp only [plain, cmdEdgeSetup, cmdEdgePolicy, cmdEdgeRead, cmdEdgeFlush, cmdEdgeStatus]
    repeat' split
    all_goals rfl

theorem noteCommand_keepsRules {code : Byte} {cmd : Command} (h : noteCommand code = some cmd) : KeepsRules cmd := by
  refine .of_items fun params s => ?_
  unfold noteCommand at h
  repeat' split at h
  all_goals cases h
  all_goals
    simp only [plain, cmdNoteFirst, cmdNoteNext, cmdNoteEnable, cmdNoteStatus]
    repeat' split
    all_goals rfl

theorem storeCommand_keepsRules {code : Byte} {cmd : Command} (h : storeCommand code = some cmd) : KeepsRules cmd := by
  refine .of_items fun params s => ?_
  unfold storeCommand at h
  repeat' split at h
  all_goals cases h
  all_goals
    simp only [plain, request, cmdStoreRead, cmdStoreLoad, cmdStoreClear, cmdStoreOpen, cmdStoreProgram, cmdStoreLock,
      cmdStoreWipe, cmdStoreStatus, cmdStoreJournal]
    repeat' split
    all_goals rfl

/-! ## Group WARD (R146) -/

theorem wardBeat_keepsRules : KeepsRules (plain cmdWardBeat) := by
  intro params s h
  simp only [plain, cmdWardBeat]
  have bad (k : FaultKind) : InForce (badBeat k s).state := (h.wardenFault k).congr (pulseItems_setWard ..)
  repeat' split
  · exact h
  · exact bad .early
  · exact bad .wrongCount
  · exact h.congr rfl
  · exact h

theorem wardCommand_keepsRules {code : Byte} {cmd : Command} (h : wardCommand code = some cmd) : KeepsRules cmd := by
  by_cases beat : code = 0x62
  · subst beat
    obtain rfl : plain cmdWardBeat = cmd := Option.some.inj h
    exact wardBeat_keepsRules
  · refine .of_items fun params s => ?_
    unfold wardCommand at h
    rw [if_neg beat] at h
    repeat' split at h
    all_goals cases h
    all_goals
      simp only [plain, request, cmdWardSetup, cmdWardArm, cmdWardDisarmReq, cmdWardDisarmConfirm, cmdWardStatus]
      repeat' split
      all_goals rfl

/-! ## Group STAND (R164, R171 to R174) -/

theorem standCommand_keepsRules {code : Byte} {cmd : Command} (h : standCommand code = some cmd) : KeepsRules cmd := by
  unfold standCommand at h
  repeat' split at h
  all_goals cases h
  all_goals
    intro params s hs
    simp only [plain, request, cmdStandEnter, cmdStandReturnReq, cmdStandReturnConfirm, cmdStandStatus]
  · split
    · exact hs.requestStandin .command
    · exact hs
  · repeat' split
    all_goals exact hs
  · repeat' split
    · exact hs
    · exact hs
    · exact hs
    · exact hs.returnToHost
    · exact hs
  · split
    · exact hs
    · exact hs

/-! ## Group CHAN (R43, R50 to R52) -/

/-- A change of the channels' configuration that leaves STANDIN's channels and every level as they are. -/
theorem InForce.configure {s : State} (h : InForce s) {x : Vector Channel 16}
    (level : ∀ i : Fin 16, x[i].level = s.chans[i].level)
    (owned : s.stand.state ≠ .host → ∀ i : Fin 16, x[i].owned = s.chans[i].owned) : InForce (s.setChans x) := by
  refine h.of_holds rfl fun n i a held => ⟨held, level i, fun host => ?_⟩
  rw [standinMask_getLsbD, State.setChans_stand, State.setChans_chans]
  rw [standinMask_getLsbD] at host
  cases away : s.stand.state != .host
  · rfl
  · rw [owned (bne_iff_ne.1 away) i, ← away, host]

theorem chanSetup_keepsRules : KeepsRules (plain cmdChanSetup) := by
  intro params s h
  simp only [plain, cmdChanSetup]
  split
  next b0 b1 b2 b3 =>
    split
    next hi =>
      split
      next drive safe owned _ _ _ =>
        split
        next => exact h
        next fixed =>
          split
          · exact h
          · have entry (i : Fin 16) : (s.chans.set b0.toNat { s.chans[b0.toNat] with drive := drive, safe := safe, owned := owned } hi)[i] =
                if b0.toNat = i.val then { s.chans[i] with drive := drive, safe := safe, owned := owned } else s.chans[i] := by
              rw [Fin.getElem_fin, Vector.getElem_set]
              split
              next e => simp only [e, Fin.getElem_fin]
              next => rfl
            refine h.configure (fun i => ?_) fun away i => ?_
            · rw [entry]
              split <;> rfl
            · rw [entry]
              split
              next e =>
                have same : owned = s.chans[b0.toNat].owned := by
                  by_contra other
                  exact fixed ⟨other, away⟩
                simpa only [e, Fin.getElem_fin] using same
              next => rfl
      next => exact h
    next => exact h
  next => exact h

theorem chanSeal_keepsRules : KeepsRules (plain cmdChanSeal) := by
  intro params s h
  simp only [plain, cmdChanSeal]
  split
  next b1 b0 =>
    split
    · exact h
    · have entry (i : Fin 16) : (sealMask (b1 ++ b0) s.chans)[i].level = s.chans[i].level ∧
          (sealMask (b1 ++ b0) s.chans)[i].owned = s.chans[i].owned := by
        simp only [sealMask, Fin.getElem_fin, Vector.getElem_ofFn]
        split
        · exact ⟨rfl, rfl⟩
        · exact ⟨rfl, rfl⟩
      have closed : InForce (s.setChans (sealMask (b1 ++ b0) s.chans)) :=
        h.configure (fun i => (entry i).1) fun _ i => (entry i).2
      exact closed
  next => exact h

theorem done_state (payload : List Byte) (s : State) : (done payload s).state = s := rfl

theorem chanForce_keepsRules : KeepsRules (plain cmdChanForce) := by
  intro params s h
  have driven (m : Half) (k : LevelKind) : InForce (Machine.driveAndCut m k none s) :=
    h.driveAndCut m k none fun _ _ _ e => nomatch e
  simp only [plain, cmdChanForce]
  split
  next hi lo b =>
    split
    next => exact h
    next kind _ =>
      split
      · exact h
      · split
        · exact h
        · rw [done_state]
          exact driven (hi ++ lo) kind
  next => exact h

theorem chanRead_keepsRules : KeepsRules (plain cmdChanRead) := by
  refine .of_items fun params s => ?_
  cases params <;> rfl

theorem chanCommand_keepsRules {code : Byte} {cmd : Command} (h : chanCommand code = some cmd) : KeepsRules cmd := by
  unfold chanCommand at h
  repeat' split at h
  all_goals cases h
  · exact chanSetup_keepsRules
  · exact chanForce_keepsRules
  · exact chanSeal_keepsRules
  · exact chanRead_keepsRules

/-! ## Group CUE (R73 to R83, R104, R105) -/

theorem InForce.settleDue {s : State} (h : InForce s) (n : Fin 48) (c : Cue) (due : Tick) (cls : DueClass) :
    InForce (settleDue n c due cls s).state := by
  have armed : InForce (s.setCue n { c with trigger := .atTime due, wait := .armed due due false }) :=
    h.setCue n _ (.inl rfl)
  cases cls with
  | late => exact armed.lateRule n false
  | acceptable => exact armed.place n
  | beyond => exact armed.place n

/-- R62: a cue of CUE.ADD holds no channel yet. -/
theorem pending_of_parseCue {p : List Byte} {c : Cue} (h : parseCue p = some c) : c.pending = 0 := by
  simp only [parseCue] at h
  split at h
  next trigger action guard _ _ _ =>
    split at h
    · cases h
      cases trigger <;> rfl
    · cases h
  next => cases h

theorem cueAdd_keepsRules : KeepsRules (plain cmdCueAdd) := by
  intro params s h
  simp only [plain, cmdCueAdd]
  split
  · exact h
  · split
    next => exact h
    next c hc =>
      unfold addCue
      split
      · split
        · exact h
        next n _ => exact h.setCue n c (.inl (pending_of_parseCue hc))
      · dsimp only
        split
        · exact h
        · split
          · exact h
          · split
            · exact h
            · exact h.settleDue ..

theorem cueAmend_keepsRules : KeepsRules (plain cmdCueAmend) := by
  intro params s h
  simp only [plain, cmdCueAmend]
  split
  · exact h
  · split
    · exact h
    · exact h
    · repeat' split
      · exact h
      · exact h
      · exact h
      · exact h.settleDue ..

theorem InForce.cancelSlot {s : State} (h : InForce s) (m : CancelMode) (n : Fin 48) : InForce (cancelSlot m n s).2 := by
  unfold Machine.cancelSlot
  split
  next => exact h
  next => exact h.freeSlot n
  next c hc =>
    split
    next => exact h.freeSlot n
    next => exact h.freeSlot n
    next trail sched mask ending hw =>
      exact h.setCue n _ (.inr ⟨c, hc, by simp only [Cue.pending, hw], rfl⟩)

theorem cueCancel_keepsRules : KeepsRules (plain cmdCueCancel) := by
  intro params s h
  simp only [plain, cmdCueCancel]
  split
  · split
    · exact h
    · exact h
    · exact h
    · exact h.cancelSlot ..
  · exact h

theorem InForce.purge {s : State} (h : InForce s) (m : CancelMode) (slots : List (Fin 48)) :
    InForce (slots.foldl (purgeOne m) (0, 0, s)).2.2 :=
  List.foldlRecOn (motive := fun acc : Nat × Nat × State => InForce acc.2.2) slots (purgeOne m) h fun acc hacc n _ => by
    unfold purgeOne
    dsimp only
    split
    · exact hacc.cancelSlot m n
    · exact hacc.cancelSlot m n

theorem cuePurge_keepsRules : KeepsRules (plain cmdCuePurge) := by
  intro params s h
  simp only [plain, cmdCuePurge]
  split
  · split
    · exact h
    · repeat' split
      · exact h
      · exact h
      · exact h.purge ..
  · exact h

theorem InForce.thaw {s : State} (h : InForce s) : InForce (thaw s).state :=
  List.foldlRecOn (motive := fun t : ThawTally => InForce t.state) (overdueSlots s) _
    (h.congr (pulseItems_setCues rfl)) fun _ ht n _ => ht.lateRule n _

theorem cueThaw_keepsRules : KeepsRules (plain cmdCueThaw) := by
  intro params s h
  simp only [plain, cmdCueThaw]
  repeat' split
  · exact h
  · exact h.thaw
  · exact h

theorem cueCommand_keepsRules {code : Byte} {cmd : Command} (h : cueCommand code = some cmd) : KeepsRules cmd := by
  unfold cueCommand at h
  repeat' split at h
  all_goals cases h
  · exact cueAdd_keepsRules
  · exact cueCancel_keepsRules
  · exact cueAmend_keepsRules
  · refine .of_items fun params s => ?_
    simp only [plain, cmdCueQuery]
    repeat' split
    all_goals rfl
  · refine .of_items fun params s => ?_
    simp only [plain, cmdCueList]
    repeat' split
    all_goals rfl
  · refine .of_items fun params s => ?_
    simp only [plain, cmdCueHooks]
    repeat' split
    all_goals rfl
  · exact cuePurge_keepsRules
  · refine .of_items fun params s => ?_
    simp only [plain, cmdCueFreeze]
    repeat' split
    all_goals rfl
  · exact cueThaw_keepsRules
  · refine .of_items fun params s => ?_
    cases params <;> rfl

/-! ## The catalogue (R24) -/

theorem commandFor_keepsRules (code : Byte) : KeepsRules (commandFor code) := by
  have known : ∀ cmd, commandOf code = some cmd → KeepsRules cmd := by
    intro cmd h
    unfold commandOf at h
    split at h
    · exact sysCommand_keepsRules h
    · exact timeCommand_keepsRules h
    · exact cueCommand_keepsRules h
    · exact chanCommand_keepsRules h
    · exact edgeCommand_keepsRules h
    · exact noteCommand_keepsRules h
    · exact wardCommand_keepsRules h
    · exact standCommand_keepsRules h
    · exact storeCommand_keepsRules h
    · cases h
  unfold commandFor
  cases h : commandOf code with
  | none => exact .of_items fun _ _ => rfl
  | some cmd => exact known cmd h

end Sys2Proof.OutputChannels
end

section
/-! PROOFS. Pulses through every row. -/

open Sys2Proof Sys2Proof.Machine

namespace Sys2Proof.OutputChannels

/-! ## Resets (R84, R195) -/

theorem PulseRules.takeReset (k : ResetKind) (s : State) : PulseRules (takeReset k s) := by
  refine .of_empty fun n => ?_
  rw [State.cueAt, takeReset_cues]
  simp [CueTable.reset, Slot.reset]

theorem PulseRules.nCsRises {s : State} (h : PulseRules s) : PulseRules (nCsRises s) := by
  unfold Machine.nCsRises
  split
  · exact .takeReset .soft s
  · exact h

theorem PulseRules.meetPins {s : State} (h : PulseRules s) (pins : InPins) : PulseRules (meetPins pins s) := by
  unfold Machine.meetPins
  split
  · exact h.nCsRises.congr (pulseItems_meetInputs ..)
  · exact h.congr (pulseItems_meetInputs ..)

/-! ## Transactions (R8 to R13, R22) -/

@[simp] theorem pulseItems_respond (x : Span) (seq : Byte) (st : Status) (payload : List Byte) (replayed : Bool) (s : State) :
    pulseItems (respond x seq st payload replayed s) = pulseItems s := rfl

@[simp] theorem pulseItems_noResponse (clocks : Nat) (s : State) : pulseItems (noResponse clocks s) = pulseItems s := rfl

theorem InForce.finish {r : Reply} (h : InForce r.state) (opens : Option WindowKind) (x : Span) (seq : Byte) :
    PulseRules (finish opens x seq r) := by
  have answered : PulseRules (respond x seq r.status r.payload false
      ((settle r.state).setPort (portAfter opens seq r (settle r.state).port))) := h.2.congr (by simp)
  unfold Machine.finish softAtOnce
  dsimp only
  split
  · exact answered.nCsRises
  · exact answered

theorem InForce.serveIntact {s : State} (h : InForce s) {cmd : Command} (hc : KeepsRules cmd) (x : Span) (seq : Byte)
    (params : List Byte) : PulseRules (serveIntact cmd x seq params s) := by
  unfold Machine.serveIntact
  split
  · unfold replay
    split
    · exact h.2
    · exact h.2.congr (pulseItems_respond ..)
  · exact (hc params s h).finish ..

theorem InForce.abortFrame {s : State} (h : InForce s) (clocks : Nat) : PulseRules (abortFrame clocks s) :=
  h.2.congr (by simp [Machine.abortFrame, closeWindow, countError])

theorem InForce.evaluate {s : State} (h : InForce s) (bits : List Bool) : PulseRules (evaluate bits s) := by
  unfold Machine.evaluate
  dsimp only
  split
  · exact h.2
  · exact h.abortFrame _
  · exact InForce.finish (r := fail .format s) h ..
  · exact h.2.congr (by simp [refuseCheck, closeWindow, countError])
  · exact h.serveIntact (commandFor_keepsRules _) ..

theorem InForce.refuse {s : State} (h : InForce s) (bits : List Bool) : PulseRules (refuse bits s) := by
  unfold Machine.refuse
  split
  · exact h.2
  · exact h.abortFrame _

/-- R22: a transaction is served by a ready port alone. -/
theorem PulseRules.whenReady {s : State} (h : PulseRules s) (clocks : Nat) (fresh : Bool) (pins : InPins)
    {serve : State → State} (served : ∀ t, InForce t → PulseRules (serve t)) :
    PulseRules (whenReady clocks fresh pins serve s) := by
  have risen := h.nCsRises
  unfold Machine.whenReady
  generalize Machine.nCsRises s = u at risen
  dsimp only
  split
  next => exact risen.congr (by simp)
  next on =>
    have ready : u.sys.phase = .ready := by
      by_contra away
      exact on (by simp [ignores, away])
    exact served _ ⟨ready, risen.congr (by simp [stopIgnoring])⟩

/-! ## Events of the clocks -/

theorem PulseRules.occur {s : State} (h : PulseRules s) (due : Bool) {effect : State → State}
    (kept : due = true → InForce s → InForce (effect s)) : PulseRules (occur due effect s) := by
  unfold Machine.occur
  split
  next on =>
    rw [Bool.and_eq_true, beq_iff_eq] at on
    exact (kept on.2 ⟨on.1, h⟩).2.congr (pulseItems_settle _)
  next => exact h

/-- An event that touches neither channels nor cues. -/
theorem PulseRules.occur_of_items {s : State} (h : PulseRules s) (due : Bool) {effect : State → State}
    (same : pulseItems (effect s) = pulseItems s) : PulseRules (Machine.occur due effect s) :=
  h.occur due fun _ hs => hs.congr same

theorem PulseRules.inTick {s : State} (h : PulseRules s) (due : Bool) {effect : State → State}
    (kept : due = true → InForce s → InForce (effect s)) : PulseRules (inTick due effect s) :=
  h.occur _ fun on => kept (Bool.and_eq_true_iff.1 on).2

theorem PulseRules.tick {s : State} (h : PulseRules s) : PulseRules (tick s) := by
  unfold Machine.tick
  split
  next on =>
    unfold ticking at on
    rw [Bool.and_eq_true, beq_iff_eq] at on
    exact (InForce.tickStages ⟨on.1, h⟩).2
  next => exact h

theorem PulseRules.wardenMsEvent {s : State} (h : PulseRules s) (ms : MsInputs) : PulseRules (wardenMsEvent ms s) := by
  unfold Machine.wardenMsEvent
  split
  next => exact h
  next => exact h.congr rfl
  next ready => exact (InForce.wardenMsSteps ⟨ready, h⟩ ms).2

theorem PulseRules.sourcePeriod {s : State} (h : PulseRules s) : PulseRules (sourcePeriod s) := by
  refine h.congr ?_
  unfold Machine.sourcePeriod dividePeriod seePeriod
  repeat' split
  all_goals rfl

/-! ## The power-up sequence (R84, R199, R200) -/

/-- R84: no slot holds a cue. -/
def TableEmpty (s : State) : Prop := ∀ n, s.cueAt n = none

theorem TableEmpty.congr {s t : State} (h : TableEmpty s) (same : t.cues = s.cues) : TableEmpty t := fun n => by
  rw [State.cueAt, same]
  exact h n

theorem TableEmpty.requestStandin {s : State} (h : TableEmpty s) (c : Cause) : TableEmpty (requestStandin c s) := by
  unfold Machine.requestStandin
  split
  · have driven : TableEmpty (entryDrive (entryStart c s)) := fun n => by
      have before : (entryStart c s).cueAt n = none := h.congr (entryStart_cues c s) n
      rw [entryDrive, cutBy_cueAt, setChans_cueAt, before]
      simp
    exact driven.congr (by simp [enterStandin, entryImage])
  · exact h.congr rfl

theorem countMsTimes_cues (n : Nat) (s : State) : (countMsTimes n s).cues = s.cues := by
  unfold countMsTimes
  induction n with
  | zero => rfl
  | succ n ih => exact ih

theorem TableEmpty.powerUpStep {s : State} (h : TableEmpty s) (p : PowerUp) (i : Nat) : TableEmpty (powerUpStep p i s) := by
  unfold Machine.powerUpStep
  dsimp only
  split
  · exact h.congr rfl
  · exact h.congr rfl
  · exact h.congr rfl
  · exact h.congr rfl
  · exact h.congr rfl
  · split
    · exact h.congr rfl
    · exact h
  · have counted := h.congr (countMsTimes_cues p.msBeforeEntry s)
    unfold enterAtPowerUp
    split
    · exact counted.requestStandin .powerUp
    · exact counted
  · refine h.congr ?_
    unfold reportReset reportConfig
    split <;> simp [countMsTimes_cues]
  · exact h

theorem TableEmpty.stepDone {s : State} (h : TableEmpty s) (i : Nat) : TableEmpty (stepDone i s) := by
  unfold Machine.stepDone
  split
  · exact h.congr rfl
  · exact h.congr rfl

theorem TableEmpty.powerUpFrom {s : State} (h : TableEmpty s) (done : Nat) (p : PowerUp) :
    TableEmpty (powerUpFrom done p s) := by
  have carried := List.foldlRecOn (List.range' (done + 1) (p.steps.val - done)) (carryOut p) h
    fun _ ht i _ => (ht.powerUpStep p i).stepDone i
  exact carried.congr (settle_cues _)

theorem PulseRules.powerUp {s : State} (h : PulseRules s) (p : PowerUp) : PulseRules (powerUp p s) := by
  unfold Machine.powerUp
  split
  next resetting =>
    have empty : TableEmpty s := h.1 (by simp [resetting])
    have released : TableEmpty (release p.xinEdge p.pins s) := empty.congr rfl
    exact .of_empty (released.powerUpFrom 0 p)
  next step starting =>
    have empty : TableEmpty s := h.1 (by simp [starting])
    split
    · have resumed : TableEmpty (meetInputs p.pins (s.setTime { s.time with xinSeen := s.time.xinSeen || p.xinEdge })) :=
        empty.congr rfl
      exact .of_empty (resumed.powerUpFrom step.val p)
    · exact h
  next => exact h

theorem PulseRules.portReady {s : State} (h : PulseRules s) :
    PulseRules (if s.sys.phase = .poweringUp 8 then settle (becomeReady s) else s) := by
  split
  next starting =>
    have empty : TableEmpty s := h.1 (by simp [starting])
    exact .of_empty (empty.congr rfl)
  next => exact h

/-! ## The rows -/

/-- R12, R24, R39: the rows of the command class: the frame of a command, or the bits of a transaction. -/
theorem exec_of_commandClass {c : Instr} (h : eventClass c = .command) :
    (∃ code f, ∀ s, exec c s = .next (serveCommand (commandFor code) f s)) ∨
      (∃ t, ∀ s, exec c s = .next (transact evaluate t s)) ∨ ∃ t, ∀ s, exec c s = .next (transact refuse t s) := by
  cases c with
  | sysStatus f => exact .inl ⟨0x00, f, fun _ => rfl⟩
  | sysIdentify f => exact .inl ⟨0x01, f, fun _ => rfl⟩
  | sysCause f => exact .inl ⟨0x02, f, fun _ => rfl⟩
  | sysResetReq f => exact .inl ⟨0x03, f, fun _ => rfl⟩
  | sysResetConfirm f => exact .inl ⟨0x04, f, fun _ => rfl⟩
  | sysUnstick f => exact .inl ⟨0x05, f, fun _ => rfl⟩
  | timeRead f => exact .inl ⟨0x10, f, fun _ => rfl⟩
  | timeRun f => exact .inl ⟨0x11, f, fun _ => rfl⟩
  | timeStop f => exact .inl ⟨0x12, f, fun _ => rfl⟩
  | timeSet f => exact .inl ⟨0x13, f, fun _ => rfl⟩
  | timeRate f => exact .inl ⟨0x14, f, fun _ => rfl⟩
  | timeRestore f => exact .inl ⟨0x15, f, fun _ => rfl⟩
  | cueAdd f => exact .inl ⟨0x20, f, fun _ => rfl⟩
  | cueCancel f => exact .inl ⟨0x21, f, fun _ => rfl⟩
  | cueAmend f => exact .inl ⟨0x22, f, fun _ => rfl⟩
  | cueQuery f => exact .inl ⟨0x23, f, fun _ => rfl⟩
  | cueList f => exact .inl ⟨0x24, f, fun _ => rfl⟩
  | cueHooks f => exact .inl ⟨0x25, f, fun _ => rfl⟩
  | cuePurge f => exact .inl ⟨0x26, f, fun _ => rfl⟩
  | cueFreeze f => exact .inl ⟨0x27, f, fun _ => rfl⟩
  | cueThaw f => exact .inl ⟨0x28, f, fun _ => rfl⟩
  | cueStatus f => exact .inl ⟨0x29, f, fun _ => rfl⟩
  | chanSetup f => exact .inl ⟨0x30, f, fun _ => rfl⟩
  | chanForce f => exact .inl ⟨0x31, f, fun _ => rfl⟩
  | chanSeal f => exact .inl ⟨0x32, f, fun _ => rfl⟩
  | chanRead f => exact .inl ⟨0x33, f, fun _ => rfl⟩
  | edgeSetup f => exact .inl ⟨0x40, f, fun _ => rfl⟩
  | edgePolicy f => exact .inl ⟨0x41, f, fun _ => rfl⟩
  | edgeRead f => exact .inl ⟨0x42, f, fun _ => rfl⟩
  | edgeFlush f => exact .inl ⟨0x43, f, fun _ => rfl⟩
  | edgeStatus f => exact .inl ⟨0x44, f, fun _ => rfl⟩
  | noteFirst f => exact .inl ⟨0x50, f, fun _ => rfl⟩
  | noteNext f => exact .inl ⟨0x51, f, fun _ => rfl⟩
  | noteEnable f => exact .inl ⟨0x52, f, fun _ => rfl⟩
  | noteStatus f => exact .inl ⟨0x53, f, fun _ => rfl⟩
  | wardSetup f => exact .inl ⟨0x60, f, fun _ => rfl⟩
  | wardArm f => exact .inl ⟨0x61, f, fun _ => rfl⟩
  | wardBeat f => exact .inl ⟨0x62, f, fun _ => rfl⟩
  | wardDisarmReq f => exact .inl ⟨0x63, f, fun _ => rfl⟩
  | wardDisarmConfirm f => exact .inl ⟨0x64, f, fun _ => rfl⟩
  | wardStatus f => exact .inl ⟨0x65, f, fun _ => rfl⟩
  | standEnter f => exact .inl ⟨0x70, f, fun _ => rfl⟩
  | standReturnReq f => exact .inl ⟨0x71, f, fun _ => rfl⟩
  | standReturnConfirm f => exact .inl ⟨0x72, f, fun _ => rfl⟩
  | standStatus f => exact .inl ⟨0x73, f, fun _ => rfl⟩
  | storeRead f => exact .inl ⟨0x80, f, fun _ => rfl⟩
  | storeLoad f => exact .inl ⟨0x81, f, fun _ => rfl⟩
  | storeClear f => exact .inl ⟨0x82, f, fun _ => rfl⟩
  | storeOpen f => exact .inl ⟨0x83, f, fun _ => rfl⟩
  | storeProgram f => exact .inl ⟨0x84, f, fun _ => rfl⟩
  | storeLock f => exact .inl ⟨0x85, f, fun _ => rfl⟩
  | storeWipe f => exact .inl ⟨0x86, f, fun _ => rfl⟩
  | storeStatus f => exact .inl ⟨0x87, f, fun _ => rfl⟩
  | storeJournal f => exact .inl ⟨0x88, f, fun _ => rfl⟩
  | frameAborted t => exact .inr (.inl ⟨t, fun _ => rfl⟩)
  | lengthOutOfRange t => exact .inr (.inl ⟨t, fun _ => rfl⟩)
  | checkFailed t => exact .inr (.inl ⟨t, fun _ => rfl⟩)
  | replay t => exact .inr (.inl ⟨t, fun _ => rfl⟩)
  | unknownCommandCode t => exact .inr (.inl ⟨t, fun _ => rfl⟩)
  | refusedTransaction t => exact .inr (.inr ⟨t, fun _ => rfl⟩)
  | _ => cases h

theorem PulseRules.command {s : State} (h : PulseRules s) {c : Instr} (command : eventClass c = .command) :
    ∃ t, exec c s = .next t ∧ PulseRules t := by
  rcases exec_of_commandClass command with ⟨code, f, row⟩ | ⟨t, row⟩ | ⟨t, row⟩
  · exact ⟨_, row s, h.whenReady _ _ _ fun u hu => hu.serveIntact (commandFor_keepsRules code) ..⟩
  · exact ⟨_, row s, h.whenReady _ _ _ fun u hu => hu.evaluate _⟩
  · exact ⟨_, row s, h.whenReady _ _ _ fun u hu => hu.refuse _⟩

theorem PulseRules.exec {s : State} (h : PulseRules s) (c : Instr) : ∃ t, exec c s = .next t ∧ PulseRules t := by
  by_cases command : eventClass c = .command
  · exact h.command command
  · cases c with
    | confirmWindowExpiry => exact ⟨_, rfl, h.occur_of_items _ rfl⟩
    | tick pins => exact ⟨_, rfl, (h.meetPins pins).tick⟩
    | wardenMsEvent ms => exact ⟨_, rfl, (h.meetPins ms.pins).wardenMsEvent ms⟩
    | clockSubst => exact ⟨_, rfl, h.occur_of_items _ (by simp [substitute])⟩
    | qualifiedEdge line => exact ⟨_, rfl, h.inTick _ fun _ hs => hs.qualifyEdge line⟩
    | trailingEdge slot => exact ⟨_, rfl, h.inTick _ fun _ hs => hs.trailingEdge slot⟩
    | leadingAction slot =>
      exact ⟨_, rfl, h.inTick _ fun _ hs => InForce.leadingAction (p := (s, Led.start)) hs slot⟩
    | cueOverdue slot => exact ⟨_, rfl, h.inTick _ fun _ hs => hs.markOverdue slot⟩
    | wardenTimeout => exact ⟨_, rfl, h.occur _ fun _ hs => hs.wardenTimeout⟩
    | closedPhaseEnd => exact ⟨_, rfl, h.occur_of_items _ rfl⟩
    | nhrstPulseEnd => exact ⟨_, rfl, h.occur_of_items _ rfl⟩
    | fsafeAssert => exact ⟨_, rfl, h.occur _ fun _ hs => hs.fsafeAssert⟩
    | fsafeClear => exact ⟨_, rfl, h.occur_of_items _ (by simp [fsafeClear])⟩
    | standinCycleEnd => exact ⟨_, rfl, h.inTick _ fun due hs => hs.cycleEnd due⟩
    | storeProgramComplete takes => exact ⟨_, rfl, h.occur_of_items _ (by simp)⟩
    | wipeStepComplete takes => exact ⟨_, rfl, h.occur_of_items _ (by simp)⟩
    | wipeComplete => exact ⟨_, rfl, h.occur_of_items _ (by simp)⟩
    | journalAppendStart => exact ⟨_, rfl, h.occur_of_items _ (by simp [pulseItems])⟩
    | journalAppendComplete takes => exact ⟨_, rfl, h.occur_of_items _ (by simp)⟩
    | powerOnReset => exact ⟨_, rfl, .takeReset .powerOn s⟩
    | brownoutReset => exact ⟨_, rfl, .takeReset .brownout s⟩
    | pinReset => exact ⟨_, rfl, .takeReset .pin s⟩
    | softReset => exact ⟨_, rfl, h.meetPins _⟩
    | powerUpSequence p => exact ⟨_, rfl, h.powerUp p⟩
    | portReady => exact ⟨_, rfl, h.portReady⟩
    | _ => exact absurd rfl command

/-- Settles O58: `PulseRules` through the front row of the queue, or through one period of the active source. -/
theorem pulsesHoldTheirChannels : Obligations.PulsesHoldTheirChannels := by
  unfold Obligations.PulsesHoldTheirChannels
  intro s t h stepped
  have rules : PulseRules s := h
  unfold step at stepped
  split at stepped
  · cases stepped
    exact rules.sourcePeriod
  next c rest _ =>
    have queued : PulseRules (s.setPending rest) := rules.congr rfl
    obtain ⟨u, row, kept⟩ := queued.exec c
    cases row.symm.trans stepped
    exact kept

end Sys2Proof.OutputChannels
end

section
/-! PROOFS. The commands of group CHAN. -/

open Sys2Proof Sys2Proof.Machine Sys2Proof.TimebaseAndTicks

namespace Sys2Proof.OutputChannels

/-! ## CHAN.READ (R43, R54) -/

/-- Numbers below a base, summed at their places, are the digits of the sum. -/
theorem foldl_places_eq_ofDigits {n : Nat} (b : Nat) (digit : Fin n → Nat) :
    (List.finRange n).foldl (fun sum i => sum + digit i * b ^ i.val) 0 = Nat.ofDigits b (List.ofFn digit) := by
  rw [Nat.ofDigits_eq_sum_mapIdx, ← List.foldl_map (f := fun i : Fin n => digit i * b ^ i.val) (g := (· + ·)),
    ← List.sum_eq_foldl, ← List.ofFn_eq_map]
  congr 1
  apply List.ext_getElem
  · simp
  · simp

section
variable {n b : Nat} {digit : Fin n → Nat} (h : ∀ i, digit i < b)
include h

theorem digits_lt : ∀ d ∈ List.ofFn digit, d < b := by simpa [List.mem_ofFn] using h

theorem ofDigits_digit (i : Fin n) : Nat.ofDigits b (List.ofFn digit) / b ^ i.val % b = digit i := by
  have pos : 0 < b := (Nat.zero_le _).trans_lt (h i)
  rw [Nat.ofDigits_div_pow_eq_ofDigits_drop i.val pos _ (digits_lt h), List.drop_eq_getElem_cons (by simp),
    Nat.ofDigits_cons]
  simp [Nat.mod_eq_of_lt (h i)]

theorem ofDigits_lt (base : 1 < b) : Nat.ofDigits b (List.ofFn digit) < b ^ n := by
  simpa using Nat.ofDigits_lt_base_pow_length base (digits_lt h)

end

theorem Level.code_lt (l : Level) : l.code < 4 := by cases l <;> decide

/-- R54: sixteen two-bit codes, each at its place. -/
theorem extract_places {digit : Fin 16 → Nat} (h : ∀ i, digit i < 4) (i : Fin 16) :
    (BitVec.ofNat 32 ((List.finRange 16).foldl (fun sum i => sum + digit i * 4 ^ i.val) 0)).extractLsb' (2 * i.val) 2 =
      BitVec.ofNat 2 (digit i) := by
  have bound : Nat.ofDigits 4 (List.ofFn digit) < 2 ^ 32 := (ofDigits_lt h (by decide)).trans_eq (by norm_num)
  apply BitVec.eq_of_toNat_eq
  rw [foldl_places_eq_ofDigits, BitVec.extractLsb'_toNat, BitVec.toNat_ofNat, BitVec.toNat_ofNat, Nat.mod_eq_of_lt bound,
    Nat.shiftRight_eq_div_pow, pow_mul]
  exact (ofDigits_digit h i).trans (Nat.mod_eq_of_lt (h i)).symm

theorem levels_packed (level : Channel → Level) (chans : Vector Channel 16) (i : Fin 16) :
    (BitVec.ofNat 32 ((List.finRange 16).foldl (fun n i => n + (level chans[i]).code * 4 ^ i.val) 0)).extractLsb' (2 * i.val) 2 =
      BitVec.ofNat 2 (level chans[i]).code :=
  extract_places (digit := fun j => (level chans[j]).code) (fun _ => Level.code_lt _) i

/-- Settles O15: CHAN.READ's payload, field by field. -/
theorem chanReadReportsEveryChannel : Obligations.ChanReadReportsEveryChannel := by
  unfold Obligations.ChanReadReportsEveryChannel
  intro f s h
  refine ⟨_, _, standinMask s, maskOf Channel.shut s.chans, maskOf Channel.owned s.chans,
    maskOf (fun ch => ch.drive == .openDrain) s.chans, fun i => ?_,
    reads_of_body (body := cmdChanRead) h rfl rfl fun _ _ => rfl⟩
  exact ⟨levels_packed Channel.level s.chans i, levels_packed Channel.safe s.chans i, standinMask_getLsbD s i,
    maskOf_getLsbD .., maskOf_getLsbD .., maskOf_getLsbD ..⟩

/-! ## The codes of parameter bytes (R50, R52) -/

theorem drive_ofCode (b : Byte) :
    Drive.ofCode b = if 1 < b.toNat then none else some (if b = 0 then .pushPull else .openDrain) := by
  unfold Drive.ofCode
  by_cases h0 : b = 0
  · simp [h0]
  · by_cases h1 : b = 1
    · simp [h1]
    · rw [if_neg h0, if_neg h1, if_pos (by bv_omega)]

theorem level_ofCode (b : Byte) :
    Level.ofCode b = if 2 < b.toNat then none else some (if b = 0 then .low else if b = 1 then .high else .flt) := by
  unfold Level.ofCode
  by_cases h0 : b = 0
  · simp [h0]
  · by_cases h1 : b = 1
    · simp [h1]
    · by_cases h2 : b = 2
      · simp [h2]
      · rw [if_neg h0, if_neg h1, if_neg h2, if_pos (by bv_omega)]

theorem bool_ofCode (b : Byte) : boolOfCode b = if 1 < b.toNat then none else some (b == 1) := by
  unfold boolOfCode
  by_cases h0 : b = 0
  · simp [h0]
  · by_cases h1 : b = 1
    · simp [h1]
    · rw [if_neg h0, if_neg h1, if_pos (by bv_omega)]

theorem levelKind_ofCode (b : Byte) :
    LevelKind.ofCode b =
      if 3 < b.toNat then none else some (if b = 0 then .low else if b = 1 then .high else if b = 2 then .flt else .toggle) := by
  unfold LevelKind.ofCode
  by_cases h0 : b = 0
  · simp [h0]
  · by_cases h1 : b = 1
    · simp [h1]
    · by_cases h2 : b = 2
      · simp [h2]
      · by_cases h3 : b = 3
        · simp [h3]
        · rw [if_neg h0, if_neg h1, if_neg h2, if_neg h3, if_pos (by bv_omega)]

/-! ## What the blocks answer (R50 to R52) -/

/-- R43: whether a channel is sealed or owned by STANDIN. -/
theorem locked_iff (s : State) (i : Fin 16) :
    (s.chans[i].shut || (standinMask s).getLsbD i.val) = true ↔
      s.chans[i].shut = true ∨ (s.chans[i].owned = true ∧ s.stand.state ≠ .host) := by
  rw [standinMask_getLsbD, Bool.or_eq_true, Bool.and_eq_true, bne_iff_ne, and_comm (a := s.stand.state ≠ .host)]

/-- R50: the checks of CHAN.SETUP in their order, and its effect. -/
theorem cmdChanSetup_eq (b0 b1 b2 b3 : Byte) (s : State) :
    cmdChanSetup [b0, b1, b2, b3] s =
      if h : b0.toNat < 16 then
        if 1 < b1.toNat ∨ 2 < b2.toNat ∨ 1 < b3.toNat then fail .param s
        else if (b3 == 1) ≠ s.chans[b0.toNat].owned ∧ s.stand.state ≠ .host then fail .state s
        else if s.chans[b0.toNat].shut = true ∨ (s.chans[b0.toNat].owned = true ∧ s.stand.state ≠ .host) then fail .locked s
        else
          done [] (s.setChans (s.chans.set b0.toNat
            { s.chans[b0.toNat] with
              drive := if b1 = 0 then .pushPull else .openDrain
              safe := if b2 = 0 then .low else if b2 = 1 then .high else .flt
              owned := b3 == 1 } h))
      else fail .param s := by
  unfold cmdChanSetup
  dsimp only
  split
  next channel =>
    have locked := locked_iff s ⟨b0.toNat, channel⟩
    rw [Fin.getElem_fin] at locked
    rw [drive_ofCode, level_ofCode, bool_ofCode]
    by_cases h1 : 1 < b1.toNat
    · simp [h1]
    · by_cases h2 : 2 < b2.toNat
      · simp [h1, h2]
      · by_cases h3 : 1 < b3.toNat
        · simp [h1, h2, h3]
        · simp only [h1, h2, h3, locked, if_false, or_self]
  next => rfl

/-- R51: sealing adds the channels of the mask to the sealed ones. -/
theorem sealMask_eq (m : Half) (chans : Vector Channel 16) :
    sealMask m chans = Vector.ofFn fun i => { chans[i] with shut := chans[i].shut || m.getLsbD i.val } := by
  apply Vector.ext
  intro i hi
  simp only [sealMask, Vector.getElem_ofFn]
  cases m.getLsbD i <;> simp

theorem cmdChanSeal_eq (hi lo : Byte) (s : State) :
    cmdChanSeal [hi, lo] s =
      if hi ++ lo = (0 : Half) then fail .param s
      else
        done (be16 (hi ++ lo ||| BitVec.ofFnLE fun i : Fin 16 => s.chans[i].shut))
          (s.setChans (Vector.ofFn fun i =>
            { s.chans[i] with shut := s.chans[i].shut || (hi ++ lo : Half).getLsbD i.val })) := by
  have shut : maskOf Channel.shut (sealMask (hi ++ lo) s.chans) =
      hi ++ lo ||| BitVec.ofFnLE fun i : Fin 16 => s.chans[i].shut := by
    apply BitVec.eq_of_getLsbD_eq
    intro i hi16
    have bit := maskOf_getLsbD Channel.shut (sealMask (hi ++ lo) s.chans) ⟨i, hi16⟩
    simp only at bit
    rw [bit, sealMask_eq, BitVec.getLsbD_or, BitVec.getLsbD_ofFnLE, dif_pos hi16, Bool.or_comm, Fin.getElem_fin,
      Vector.getElem_ofFn]
  unfold cmdChanSeal
  dsimp only
  rw [State.setChans_chans, shut, sealMask_eq]

theorem foldl_or_getLsbD {α : Type} (g : α → Half) (l : List α) (m : Half) (i : Nat) :
    (l.foldl (fun m a => m ||| g a) m).getLsbD i = (m.getLsbD i || l.any fun a => (g a).getLsbD i) := by
  induction l generalizing m with
  | nil => simp
  | cons a l ih => rw [List.foldl_cons, ih, List.any_cons, BitVec.getLsbD_or, Bool.or_assoc]

/-- R48: the channels that some pulse holds. -/
theorem pendingMask_getLsbD (s : State) (i : Nat) :
    (pendingMask s).getLsbD i = (List.finRange 48).any fun n => ((s.cueAt n).elim 0 Cue.pending).getLsbD i := by
  have step : pendingMask s = (List.finRange 48).foldl (fun m n => m ||| (s.cueAt n).elim 0 Cue.pending) 0 := by
    unfold pendingMask
    congr 1
    funext m n
    cases hc : s.cueAt n with
    | none => simp
    | some c => cases hw : c.wait <;> simp [hw, Cue.pending]
  have zero : (0 : Half).getLsbD i = false := BitVec.getLsbD_zero
  rw [step, foldl_or_getLsbD, zero, Bool.false_or]

/-- R52: whether the mask of CHAN.FORCE holds a channel that is sealed or owned by STANDIN. -/
theorem forceLocked_iff (m : Half) (s : State) :
    m &&& (maskOf Channel.shut s.chans ||| standinMask s) ≠ 0 ↔
      ((List.finRange 16).any fun i =>
        m.getLsbD i.val && (s.chans[i].shut || (s.chans[i].owned && s.stand.state != .host))) = true := by
  rw [ne_eq, and_eq_zero_iff, not_forall, List.any_eq_true]
  refine exists_congr fun i => ?_
  rw [BitVec.getLsbD_or, maskOf_getLsbD, standinMask_getLsbD, Classical.not_imp, Bool.not_eq_false, Bool.and_eq_true,
    and_comm (a := i ∈ _), and_iff_left (List.mem_finRange i), Bool.and_comm (s.chans[i].owned)]

/-- R52: the checks of CHAN.FORCE in their order, and its effect. -/
theorem cmdChanForce_eq (hi lo b : Byte) (s : State) :
    cmdChanForce [hi, lo, b] s =
      let mask : Half := hi ++ lo
      if 3 < b.toNat ∨ mask = 0 then fail .param s
      else if (List.finRange 16).any fun i =>
          mask.getLsbD i.val && (s.chans[i].shut || (s.chans[i].owned && s.stand.state != .host)) then
        fail .locked s
      else
        let kind : LevelKind := if b = 0 then .low else if b = 1 then .high else if b = 2 then .flt else .toggle
        done (be16 (mask &&& pendingMask s)) (cutEverywhere mask (s.setChans (written mask kind s.chans))) := by
  unfold cmdChanForce
  dsimp only
  rw [levelKind_ofCode]
  by_cases hb : 3 < b.toNat
  · simp [hb]
  · rw [if_neg hb]
    dsimp only
    by_cases hm : (hi ++ lo : Half) = 0
    · simp [hm]
    · rw [if_neg hm, if_neg (not_or.2 ⟨hb, hm⟩)]
      simp only [forceLocked_iff, driveAndCut, cutBy_none, writeMask_eq]

/-! ## The commands -/

/-! The input pins of a frame touch no channel and no cue. -/

theorem met_chans (pins : InPins) (s : State) : (met pins s).chans = s.chans := rfl
theorem met_standState (pins : InPins) (s : State) : (met pins s).stand.state = s.stand.state := rfl
theorem pendingMask_met (pins : InPins) (s : State) : pendingMask (met pins s) = pendingMask s := rfl

theorem cutEverywhere_sys (m : Half) (s : State) : (cutEverywhere m s).sys = s.sys := by
  rw [cutEverywhere, State.setNotes_sys, State.setCues_sys]
theorem cutEverywhere_pins (m : Half) (s : State) : (cutEverywhere m s).pins = s.pins := by
  rw [cutEverywhere, State.setNotes_pins, State.setCues_pins]


section
variable {f : Frame} {s : State} (h : Served f s)
include h

/-- A command of group CHAN that sets nothing but the channels. -/
theorem serveCommand_setsChans {body : List Byte → State → Reply} {payload : List Byte} {x : Vector Channel 16}
    (reply : body f.params (met f.pins s) = done payload ((met f.pins s).setChans x)) :
    serveCommand (plain body) f s = granted f payload ((met f.pins s).setChans x) :=
  serveCommand_done h reply (served_softPending h) rfl

theorem chanSetup_served :
    serveCommand (plain cmdChanSetup) f s =
      match f.params with
      | [b0, b1, b2, b3] =>
        if h : b0.toNat < 16 then
          if 1 < b1.toNat ∨ 2 < b2.toNat ∨ 1 < b3.toNat then refusedWith f .param s
          else if (b3 == 1) ≠ s.chans[b0.toNat].owned ∧ s.stand.state ≠ .host then refusedWith f .state s
          else if s.chans[b0.toNat].shut = true ∨ (s.chans[b0.toNat].owned = true ∧ s.stand.state ≠ .host) then
            refusedWith f .locked s
          else
            granted f [] ((met f.pins s).setChans (s.chans.set b0.toNat
              { s.chans[b0.toNat] with
                drive := if b1 = 0 then .pushPull else .openDrain
                safe := if b2 = 0 then .low else if b2 = 1 then .high else .flt
                owned := b3 == 1 } h))
        else refusedWith f .param s
      | _ => refusedWith f .format s := by
  split
  next b0 b1 b2 b3 hp =>
    have reply := (congrArg (cmdChanSetup · (met f.pins s)) hp).trans (cmdChanSetup_eq b0 b1 b2 b3 (met f.pins s))
    rw [met_chans, met_standState] at reply
    split
    next channel =>
      rw [dif_pos channel] at reply
      split
      next bad => exact serveCommand_fail h (reply.trans (if_pos bad)) (by decide)
      next good =>
        rw [if_neg good] at reply
        split
        next fixed => exact serveCommand_fail h (reply.trans (if_pos fixed)) (by decide)
        next free =>
          replace reply := reply.trans (if_neg free)
          split
          next locked => exact serveCommand_fail h (reply.trans (if_pos locked)) (by decide)
          next unlocked => exact serveCommand_setsChans h (reply.trans (if_neg unlocked))
    next outside => exact serveCommand_fail h (reply.trans (dif_neg outside)) (by decide)
  next other =>
    refine serveCommand_fail h ?_ (by decide)
    unfold cmdChanSetup
    split
    next b0 b1 b2 b3 hp => exact absurd hp (other b0 b1 b2 b3)
    next => rfl

theorem chanSeal_served :
    serveCommand (plain cmdChanSeal) f s =
      match f.params with
      | [hi, lo] =>
        if hi ++ lo = (0 : Half) then refusedWith f .param s
        else
          granted f (be16 (hi ++ lo ||| BitVec.ofFnLE fun i : Fin 16 => s.chans[i].shut))
            ((met f.pins s).setChans (Vector.ofFn fun i =>
              { s.chans[i] with shut := s.chans[i].shut || (hi ++ lo : Half).getLsbD i.val }))
      | _ => refusedWith f .format s := by
  split
  next hi lo hp =>
    have reply := (congrArg (cmdChanSeal · (met f.pins s)) hp).trans (cmdChanSeal_eq hi lo (met f.pins s))
    rw [met_chans] at reply
    split
    next zero => exact serveCommand_fail h (reply.trans (if_pos zero)) (by decide)
    next nonzero => exact serveCommand_setsChans h (reply.trans (if_neg nonzero))
  next other =>
    refine serveCommand_fail h ?_ (by decide)
    unfold cmdChanSeal
    split
    next hi lo hp => exact absurd hp (other hi lo)
    next => rfl

end

/-- Settles O27, command by command. -/
theorem chanSetupAndSeal : Obligations.ChanSetupAndSeal := by
  unfold Obligations.ChanSetupAndSeal
  intro f s h
  exact ⟨congrArg _ (chanSetup_served h), congrArg _ (chanSeal_served h)⟩

/-- R52: what CHAN.FORCE answers: the channels of its mask that some pulse held. -/
theorem forceHeld_eq (m : Half) (s : State) :
    m &&& pendingMask s = BitVec.ofFnLE fun i : Fin 16 =>
      m.getLsbD i.val && (List.finRange 48).any fun n => ((s.cueAt n).elim 0 Cue.pending).getLsbD i.val := by
  apply BitVec.eq_of_getLsbD_eq
  intro i hi
  rw [BitVec.getLsbD_and, pendingMask_getLsbD, BitVec.getLsbD_ofFnLE, dif_pos hi]

/-- Settles O28: the reply of CHAN.FORCE on the state that the frame met. -/
theorem chanForceDrivesAndCuts : Obligations.ChanForceDrivesAndCuts := by
  unfold Obligations.ChanForceDrivesAndCuts
  intro f s h
  refine congrArg Host.Outcome.next (show serveCommand (plain cmdChanForce) f s = _ from ?_)
  split
  next hi lo b hp =>
    have reply := (congrArg (cmdChanForce · (met f.pins s)) hp).trans (cmdChanForce_eq hi lo b (met f.pins s))
    rw [met_chans, met_standState, pendingMask_met] at reply
    dsimp only at reply ⊢
    split
    next bad => exact serveCommand_fail h (reply.trans (if_pos bad)) (by decide)
    next good =>
      replace reply := reply.trans (if_neg good)
      split
      next locked => exact serveCommand_fail h (reply.trans (if_pos locked)) (by decide)
      next free =>
        replace reply := reply.trans (if_neg free)
        rw [forceHeld_eq] at reply
        have pending (i : Fin 16) (n : Fin 48) : ((s.cueAt n).elim 0 Cue.pending).getLsbD i.val =
            match s.cueAt n with | none => false | some c => c.pending.getLsbD i.val := by
          cases s.cueAt n with
          | none => exact BitVec.getLsbD_zero
          | some c => rfl
        simp only [pending] at reply
        refine serveCommand_done h reply ?_ ?_
        · rw [cutEverywhere_sys, State.setChans_sys]
          exact served_softPending h
        · rw [cutEverywhere_pins, State.setChans_pins]
          rfl
  next other =>
    refine serveCommand_fail h ?_ (by decide)
    unfold cmdChanForce
    split
    next hi lo b hp => exact absurd hp (other hi lo b)
    next => rfl

end Sys2Proof.OutputChannels
end

section
/-! PROOFS. Right after reset. -/

open Sys2Proof Sys2Proof.Machine

namespace Sys2Proof.OutputChannels

/-! ## The tables of chapter 11 -/

theorem reset_slot (n : Fin 48) : State.reset.cues.slots[n] = Slot.reset := by
  simp [State.reset, CueTable.reset]

theorem reset_line (i : Fin 8) : State.reset.edges.lines[i] = Line.reset := by
  simp [State.reset, EdgeUnit.reset]

theorem reset_out (i : Fin 16) : State.reset.pins.out[i] = .hiZ := by
  simp [State.reset, Pins.reset]

/-- R84: no cue outlives a reset. -/
theorem reset_cueAt (n : Fin 48) : State.reset.cueAt n = none := congrArg Slot.cue (reset_slot n)

/-- R176, R179: no address is listed. -/
theorem read_nil (a : Nat) : Memory.read [] a = 0xFF := rfl

/-- Tables 11-1 to 11-5. -/
theorem reset_values : ResetValues State.reset := by
  refine ⟨rfl, ⟨rfl, rfl, rfl, rfl, rfl, rfl, rfl, rfl, rfl, rfl, rfl, reset_out⟩, ?_, ?_,
    ⟨rfl, rfl, rfl, rfl, rfl, rfl, rfl, rfl, rfl, rfl⟩, ⟨rfl, fun a _ => read_nil a, rfl, rfl⟩⟩
  · refine ⟨fun n => ?_, rfl, rfl, rfl, rfl, rfl, rfl, rfl, rfl, rfl, fun i => ?_, rfl, rfl, rfl, rfl, rfl, rfl⟩
    · rw [reset_slot]
      exact ⟨rfl, rfl⟩
    · rw [reset_line]
      exact ⟨rfl, rfl, rfl, rfl⟩
  · exact ⟨rfl, rfl, rfl, rfl, rfl, by decide, rfl, rfl, rfl, rfl, rfl, rfl, rfl, rfl, rfl, rfl, rfl, rfl, rfl, rfl, rfl, rfl,
      rfl⟩

/-! ## The invariants -/

theorem reset_pinsShown : PinsShown State.reset := by
  refine ⟨fun _ => reset_out, fun shown => absurd (.inl rfl) shown, ⟨fun low => (nomatch low), fun ready => (nomatch ready.1)⟩,
    ⟨fun low => (nomatch low), fun pulse => absurd rfl pulse⟩, rfl⟩

theorem reset_dueListSound : DueListSound State.reset := by
  refine ⟨List.nodup_nil, fun n => ⟨fun h => (List.not_mem_nil h).elim, ?_⟩⟩
  rintro ⟨c, hc, -⟩
  rw [reset_cueAt] at hc
  cases hc

theorem reset_remainingSound : RemainingSound State.reset := by
  intro n c hc
  rw [reset_cueAt] at hc
  cases hc

theorem reset_standSound : StandSound State.reset := ⟨fun _ => rfl, fun _ hx => (nomatch hx), rfl, rfl, rfl⟩

theorem reset_wardenSound : WardenSound State.reset := by
  refine ⟨by decide, by decide, by decide, by decide, by decide, by decide, by decide, by decide, by decide,
    fun _ => ⟨rfl, rfl, rfl, rfl⟩, fun _ => ⟨rfl, rfl⟩, fun _ => rfl, fun _ => ⟨rfl, rfl⟩⟩

theorem reset_rangesSound : RangesSound State.reset := by
  refine ⟨fun w hw => (nomatch hw), by decide, fun _ => rfl, by decide, fun i => ?_, by decide, by decide, by decide⟩
  rw [reset_line]
  decide

/-- Settles O60: the tables, the new part's store, and each invariant. -/
theorem invariantsHoldAtReset : Obligations.InvariantsHoldAtReset := by
  unfold Obligations.InvariantsHoldAtReset
  obtain ⟨empty, pulses, owned⟩ := PulseRules.of_empty reset_cueAt
  exact ⟨reset_values, read_nil, ⟨rfl, rfl, rfl⟩, rfl, reset_memories_wf, ⟨by decide, fun _ => rfl⟩,
    ⟨by decide, by decide, rfl⟩, reset_pinsShown, reset_dueListSound, reset_remainingSound, empty, pulses, owned,
    reset_standSound, reset_wardenSound, reset_rangesSound, fun ignoring => (nomatch ignoring)⟩

end Sys2Proof.OutputChannels
end

section
/-! PROOFS. The moves of the cue table: what can become of its slots and its due list. -/

open Sys2Proof Sys2Proof.Machine

namespace Sys2Proof.TheCueTable

/-! ## The moves (R57, R58, R67 to R69) -/

/-- R67: the remaining count of a cue is in its range. -/
def CountSound (c : Cue) : Prop :=
  if c.occurrences = 0 then c.remaining = 0
  else 1 ≤ c.remaining.toNat ∧ c.remaining.toNat ≤ c.occurrences.toNat

/-- Whatever cue the slot held, a cue that is put in its place has its remaining count in range. -/
def CountKept (s : State) (n : Fin 48) (d : Cue) : Prop :=
  (∀ c, s.cueAt n = some c → CountSound c) → CountSound d

/-- One move of the cue table: nothing, a reset, a cue changed in its place, a cue that joins the hook set from a FREE slot, a cue
put in the due list, a cue back in the hook set, a slot freed. -/
inductive TableMove (s t : State) : Prop
  | still (slots : t.cues.slots = s.cues.slots) (due : t.cues.due = s.cues.due)
  | cleared (table : t.cues = CueTable.reset)
  | changed (n : Fin 48) (c d : Cue) (cue : s.cueAt n = some c) (key : d.key.isSome = c.key.isSome)
      (count : CountKept s n d) (slots : t.cues.slots = (s.setCue n d).cues.slots) (due : t.cues.due = s.cues.due)
  | joined (n : Fin 48) (d : Cue) (free : s.cueAt n = none) (key : d.key = none) (count : CountSound d)
      (slots : t.cues.slots = (s.setCue n d).cues.slots) (due : t.cues.due = s.cues.due)
  | listed (n : Fin 48) (d : Cue) (key : d.key.isSome = true) (count : CountKept s n d)
      (slots : t.cues.slots = (s.setCue n d).cues.slots)
      (due : t.cues.due.Perm (n :: s.cues.due.filter fun m => m != n))
  | hooked (n : Fin 48) (d : Cue) (key : d.key = none) (count : CountKept s n d)
      (slots : t.cues.slots = (s.setCue n d).cues.slots) (due : t.cues.due = s.cues.due.filter fun m => m != n)
  | freed (n : Fin 48) (slots : t.cues.slots = (freeSlot n s).cues.slots)
      (due : t.cues.due = s.cues.due.filter fun m => m != n)

/-- Some moves of the cue table, one after another. -/
def Moves : State → State → Prop := Relation.ReflTransGen TableMove

theorem TableMove.moves {s t : State} (h : TableMove s t) : Moves s t := .single h

theorem Moves.refl (s : State) : Moves s s := Relation.ReflTransGen.refl

theorem Moves.trans {s t u : State} (h : Moves s t) (k : Moves t u) : Moves s u := Relation.ReflTransGen.trans h k

/-- Whatever leaves the cue table alone. -/
theorem Moves.of_cues {s t : State} (h : t.cues = s.cues) : Moves s t :=
  (TableMove.still (congrArg CueTable.slots h) (congrArg CueTable.due h)).moves

/-- Whatever leaves slots and due list alone after some moves. -/
theorem Moves.then_still {s t u : State} (h : Moves s t) (slots : u.cues.slots = t.cues.slots)
    (due : u.cues.due = t.cues.due) : Moves s u :=
  h.trans (TableMove.still slots due).moves

theorem Moves.then_cues {s t u : State} (h : Moves s t) (same : u.cues = t.cues) : Moves s u := h.trans (.of_cues same)

/-- Operations that are moves each are moves one after another. -/
theorem Moves.foldl {α : Type} {f : State → α → State} (h : ∀ s a, Moves s (f s a)) (l : List α) (s : State) :
    Moves s (l.foldl f s) :=
  List.foldlRecOn l f (.refl s) fun _ ht a _ => ht.trans (h _ a)

/-! ## What the moves keep -/

theorem cueAt_of_slots {s t : State} (h : t.cues.slots = s.cues.slots) (n : Fin 48) : t.cueAt n = s.cueAt n := by
  rw [State.cueAt, State.cueAt, h]

/-- The cue of a slot after a cue was put in some slot. -/
theorem setCue_cueAt (s : State) (n m : Fin 48) (d : Cue) :
    (s.setCue n d).cueAt m = if m = n then some d else s.cueAt m := by
  by_cases h : m = n
  · rw [h, State.setCue_cueAt_same, if_pos rfl]
  · rw [State.setCue_cueAt_other _ _ _ _ (Ne.symm h), if_neg h]

theorem setCue_due (s : State) (n : Fin 48) (d : Cue) : (s.setCue n d).cues.due = s.cues.due := rfl

/-- R57: whether a slot is listed goes by its cue. -/
theorem listed_iff (s : State) (n : Fin 48) : Listed s n ↔ (s.cueAt n).any (fun c => c.key.isSome) = true := by
  rw [Listed, Option.any_eq_true]

/-- R57: the due list after the slot of one cue has changed. -/
theorem DueListSound.update {s t : State} (h : DueListSound s) (n : Fin 48) (nodup : t.cues.due.Nodup)
    (here : n ∈ t.cues.due ↔ Listed t n)
    (others : ∀ m, m ≠ n → (m ∈ t.cues.due ↔ m ∈ s.cues.due) ∧ t.cueAt m = s.cueAt m) : DueListSound t := by
  refine ⟨nodup, fun m => ?_⟩
  by_cases hm : m = n
  · exact hm ▸ here
  · obtain ⟨due, cue⟩ := others m hm
    rw [due, h.2 m, listed_iff, listed_iff, cue]

/-- R57, R68: every move keeps the due list the list of the waiting cues. -/
theorem TableMove.dueListSound {s t : State} (move : TableMove s t) (h : DueListSound s) : DueListSound t := by
  obtain ⟨nodup, mem⟩ := h
  have cueOf {n : Fin 48} {d : Cue} (slots : t.cues.slots = (s.setCue n d).cues.slots) (m : Fin 48) :
      t.cueAt m = if m = n then some d else s.cueAt m := (cueAt_of_slots slots m).trans (setCue_cueAt s n m d)
  cases move with
  | still slots due =>
    refine ⟨due ▸ nodup, fun n => ?_⟩
    rw [due, mem, listed_iff, listed_iff, cueAt_of_slots slots]
  | cleared table =>
    refine ⟨by rw [table]; exact List.nodup_nil, fun n => ?_⟩
    rw [listed_iff, State.cueAt, table]
    simp [CueTable.reset, Slot.reset]
  | changed n c d cue key _ slots due =>
    refine DueListSound.update ⟨nodup, mem⟩ n (due ▸ nodup) ?_ fun m hm => ?_
    · rw [due, mem, listed_iff, listed_iff, cueOf slots, if_pos rfl, cue]
      simp [key]
    · rw [due, cueOf slots, if_neg hm]
      simp
  | joined n d free key _ slots due =>
    refine DueListSound.update ⟨nodup, mem⟩ n (due ▸ nodup) ?_ fun m hm => ?_
    · rw [due, mem, listed_iff, listed_iff, cueOf slots, if_pos rfl, free]
      simp [key]
    · rw [due, cueOf slots, if_neg hm]
      simp
  | listed n d key _ slots due =>
    refine DueListSound.update ⟨nodup, mem⟩ n (due.nodup_iff.2 ?_) ?_ fun m hm => ?_
    · exact List.nodup_cons.2 ⟨by simp, nodup.filter _⟩
    · rw [due.mem_iff, listed_iff, cueOf slots, if_pos rfl]
      simp [key]
    · rw [due.mem_iff, cueOf slots, if_neg hm]
      simp [hm]
  | hooked n d key _ slots due =>
    refine DueListSound.update ⟨nodup, mem⟩ n (due ▸ nodup.filter _) ?_ fun m hm => ?_
    · rw [due, listed_iff, cueOf slots, if_pos rfl]
      simp [key]
    · rw [due, cueOf slots, if_neg hm]
      simp [hm]
  | freed n slots due =>
    have cue (m : Fin 48) := (cueAt_of_slots slots m).trans (freeSlot_cueAt n m s)
    refine DueListSound.update ⟨nodup, mem⟩ n (due ▸ nodup.filter _) ?_ fun m hm => ?_
    · rw [due, listed_iff, cue, if_pos rfl]
      simp
    · rw [due, cue, if_neg hm]
      simp [hm]

/-- R67: every move keeps the remaining counts in range. -/
theorem TableMove.remainingSound {s t : State} (move : TableMove s t) (h : RemainingSound s) : RemainingSound t := by
  have put {n : Fin 48} {d : Cue} (slots : t.cues.slots = (s.setCue n d).cues.slots) (count : CountSound d) :
      RemainingSound t := by
    intro m e he
    rw [cueAt_of_slots slots, setCue_cueAt] at he
    split at he
    · exact Option.some.inj he ▸ count
    · exact h m e he
  cases move with
  | still slots due => exact fun n c hc => h n c (by rwa [cueAt_of_slots slots] at hc)
  | cleared table =>
    intro n c hc
    rw [State.cueAt, table] at hc
    simp [CueTable.reset, Slot.reset] at hc
  | changed n c d cue key count slots due => exact put slots (count (h n))
  | joined n d free key count slots due => exact put slots count
  | listed n d key count slots due => exact put slots (count (h n))
  | hooked n d key count slots due => exact put slots (count (h n))
  | freed n slots due =>
    intro m c hc
    rw [cueAt_of_slots slots, freeSlot_cueAt] at hc
    split at hc
    · cases hc
    · exact h m c hc

theorem Moves.dueListSound {s t : State} (moves : Moves s t) (h : DueListSound s) : DueListSound t := by
  induction moves with
  | refl => exact h
  | tail _ move ih => exact move.dueListSound ih

theorem Moves.remainingSound {s t : State} (moves : Moves s t) (h : RemainingSound s) : RemainingSound t := by
  induction moves with
  | refl => exact h
  | tail _ move ih => exact move.remainingSound ih

end Sys2Proof.TheCueTable
end

section
/-! PROOFS. The operations of the cue table as moves. -/

open Sys2Proof Sys2Proof.Machine

namespace Sys2Proof.TheCueTable

/-! ## Cues in their slots (R58, R67 to R69, R89) -/

theorem setCue_self {s : State} {n : Fin 48} {c : Cue} (h : s.cueAt n = some c) : s.setCue n c = s := by
  have slot : { s.cues.slots[n] with cue := some c } = s.cues.slots[n] := by
    unfold State.cueAt at h
    rw [← h]
  unfold State.setCue
  rw [slot, Fin.getElem_fin, Vector.set_getElem_self]
  rfl

theorem countKept_of_cue {s : State} {n : Fin 48} {c d : Cue} (h : s.cueAt n = some c) (count : CountSound c → CountSound d) :
    CountKept s n d := fun sound => count (sound c h)

/-- A cue that keeps its occurrences and its remaining count. -/
theorem countKept_of_same {s : State} {n : Fin 48} {c d : Cue} (h : s.cueAt n = some c)
    (occurrences : d.occurrences = c.occurrences) (remaining : d.remaining = c.remaining) : CountKept s n d :=
  countKept_of_cue h fun sound => by rwa [CountSound, occurrences, remaining]

/-- R89: a series that begins again has all its occurrences before it. -/
theorem countSound_full {c : Cue} (h : c.remaining = c.occurrences) : CountSound c := by
  unfold CountSound
  split
  next none => rw [h, none]
  next some =>
    rw [h]
    exact ⟨Nat.one_le_iff_ne_zero.2 fun zero => some (BitVec.eq_of_toNat_eq zero), le_rfl⟩

/-- R68: a cue changed in its slot keeps its place. -/
theorem moves_setCue {s : State} {n : Fin 48} {c d : Cue} (h : s.cueAt n = some c) (key : d.key.isSome = c.key.isSome)
    (count : CountKept s n d) : Moves s (s.setCue n d) :=
  (TableMove.changed n c d h key count rfl rfl).moves

/-- R69: a cue with a key tick, put in its slot and then placed. -/
theorem moves_place {s u : State} {n : Fin 48} {d : Cue} (slots : u.cues.slots = (s.setCue n d).cues.slots)
    (due : u.cues.due = s.cues.due) (key : d.key.isSome = true) (count : CountKept s n d) : Moves s (place n u) := by
  have cue : u.cueAt n = some d := (cueAt_of_slots slots n).trans (State.setCue_cueAt_same s n d)
  refine (TableMove.listed n d key count ((place_slots n u).trans slots) ?_).moves
  exact due ▸ place_due_perm n u d cue key

theorem moves_freeSlot (n : Fin 48) (s : State) : Moves s (freeSlot n s) := (TableMove.freed n rfl (freeSlot_due n s)).moves

/-- R89: the end of a series, whose cue was changed in its slot before. -/
theorem moves_endSeries {s u : State} {n : Fin 48} {d : Cue} (cause : Nat)
    (slots : u.cues.slots = (s.setCue n d).cues.slots) (due : u.cues.due = s.cues.due) :
    Moves s (endSeries n cause u) := by
  have cue : u.cueAt n = some d := (cueAt_of_slots slots n).trans (State.setCue_cueAt_same s n d)
  have told (x : Half) :
      (if d.notifyEnd then raise .seriesEnd (handleOf u n) d.tag x u else u).cues = u.cues := by
    split <;> rfl
  unfold endSeries
  rw [cue]
  dsimp only
  generalize halfN _ = x
  specialize told x
  generalize (if d.notifyEnd then raise .seriesEnd (handleOf u n) d.tag x u else u) = v at told
  split
  · refine (TableMove.hooked n { d with wait := .hooked, remaining := d.occurrences, begun := false } rfl
      (fun _ => countSound_full rfl) ?_ ?_).moves
    · simp [State.setCue, unlist, told, slots]
    · simp [State.setCue, unlist, told, due]
  · refine (TableMove.freed n ?_ ?_).moves
    · simp [State.setCue, freeSlot, unlist, told, slots]
    · rw [freeSlot_due, told, due]

theorem moves_endSeries_self (n : Fin 48) (cause : Nat) (s : State) : Moves s (endSeries n cause s) := by
  cases h : s.cueAt n with
  | none =>
    rw [endSeries, h]
    exact .refl s
  | some c => exact moves_endSeries (d := c) cause (by rw [setCue_self h]) rfl

/-! ## Occurrences (R87, R88) -/

theorem moves_reschedule (n : Fin 48) (s : State) : Moves s (reschedule n s) := by
  unfold reschedule
  split
  next => exact .refl s
  next c hc =>
    split
    next => exact .refl s
    next => exact moves_place rfl rfl rfl (countKept_of_same hc rfl rfl)

theorem moves_completeOccurrence (n : Fin 48) (s : State) : Moves s (completeOccurrence n s) := by
  unfold completeOccurrence
  split
  next => exact .refl s
  next c hc =>
    split
    next limited =>
      dsimp only
      split
      · exact moves_endSeries 0 rfl rfl
      next left =>
        refine Moves.trans ?_ (moves_reschedule n _)
        refine moves_setCue hc rfl (countKept_of_cue hc fun sound => ?_)
        have some : c.occurrences ≠ 0 := by simpa [Cue.limited] using limited
        simp only [CountSound, if_neg some] at sound ⊢
        bv_omega
    next =>
      refine Moves.trans ?_ (moves_reschedule n _)
      exact moves_setCue hc rfl (countKept_of_same hc rfl rfl)

/-! ## The late rule (R106 to R110) -/

theorem missOccurrences_slots (n : Fin 48) (c : Cue) (k : Nat) (s : State) :
    (missOccurrences n c k s).cues.slots = s.cues.slots := by
  unfold missOccurrences
  split <;> rfl

theorem missOccurrences_due (n : Fin 48) (c : Cue) (k : Nat) (s : State) :
    (missOccurrences n c k s).cues.due = s.cues.due := by
  unfold missOccurrences
  split <;> rfl

/-- R106: a limited series consumes at least one occurrence and at most those that remain. -/
theorem lateCount_bounds {c : Cue} (sound : CountSound c) (limited : c.occurrences ≠ 0) (sched now : Tick) (saturated : Bool) :
    1 ≤ lateCount c sched now saturated ∧ lateCount c sched now saturated ≤ c.remaining.toNat := by
  have limits : c.limited = true := by simpa [Cue.limited] using limited
  rw [CountSound, if_neg limited] at sound
  unfold lateCount
  rw [limits]
  split
  · exact ⟨sound.1, le_rfl⟩
  · split
    · exact ⟨le_rfl, sound.1⟩
    · dsimp only
      rw [if_pos rfl]
      exact ⟨le_min (Nat.succ_pos _) sound.1, min_le_right _ _⟩

/-- R107, R108: what remains of a series after some occurrences. -/
theorem remaining_after {c : Cue} {k : Nat} (h : k ≤ c.remaining.toNat) :
    (c.remaining - halfN k).toNat = c.remaining.toNat - k := by
  have lt := c.remaining.isLt
  have small : (halfN k).toNat = k := by
    rw [halfN, BitVec.toNat_ofNat, Nat.mod_eq_of_lt (by omega)]
  rw [BitVec.toNat_sub_of_le (by rw [BitVec.le_def, small]; exact h), small]

/-- R67: the remaining count in range after the late rule: an unlimited series has none, a limited one has some left. -/
theorem countSound_left {c d : Cue} {k : Nat} (sound : CountSound c) (occurrences : d.occurrences = c.occurrences)
    (remaining : d.remaining = if c.limited then c.remaining - halfN k else c.remaining)
    (left : c.occurrences ≠ 0 → k < c.remaining.toNat) : CountSound d := by
  unfold CountSound at sound ⊢
  rw [occurrences, remaining]
  by_cases none : c.occurrences = 0
  · simpa [Cue.limited, none] using sound
  · have limited : c.limited = true := by simpa [Cue.limited] using none
    rw [if_neg none] at sound ⊢
    rw [limited, if_pos rfl, remaining_after (left none).le]
    have := left none
    omega

/-- The late rule on an ARMED cue that was put in its slot before. -/
theorem moves_lateRule_setCue {s : State} {n : Fin 48} {c : Cue} (count : CountKept s n c) (saturated : Bool)
    {due sched : Tick} {overdue : Bool} (armed : c.wait = .armed due sched overdue) :
    Moves s (lateRule n saturated (s.setCue n c)).state := by
  have slots (d : Cue) (k : Nat) :
      (missOccurrences n c k ((s.setCue n c).setCue n d)).cues.slots = (s.setCue n d).cues.slots := by
    rw [missOccurrences_slots, State.setCue_setCue]
  have list (d : Cue) (k : Nat) : (missOccurrences n c k ((s.setCue n c).setCue n d)).cues.due = s.cues.due := by
    rw [missOccurrences_due, setCue_due, setCue_due]
  simp only [lateRule, State.setCue_cueAt_same, armed]
  cases c.late with
  | fire =>
    refine moves_place (slots _ _) (list _ _) rfl fun sound => ?_
    refine countSound_left (count sound) rfl rfl fun limited => ?_
    have := lateCount_bounds (count sound) limited sched (s.setCue n c).time.tick saturated
    omega
  | skip =>
    dsimp only [lateSkip]
    cases limits : c.limited with
    | false =>
      have unlimited : c.occurrences = 0 := by simpa [Cue.limited] using limits
      refine moves_place (d := { c with wait := .armed _ _ false, begun := true }) (slots _ _) (list _ _) rfl fun sound => ?_
      exact countSound_left (k := 0) (count sound) rfl (by simp [limits]) fun limited => absurd unlimited limited
    | true =>
      simp only [Bool.true_and, if_true, beq_iff_eq]
      split
      next => exact moves_endSeries 2 (slots _ _) (list _ _)
      next going =>
        refine moves_place (slots _ _) (list _ _) rfl fun sound => ?_
        refine countSound_left (count sound) rfl (by rw [limits, if_pos rfl]) fun limited => ?_
        obtain ⟨-, most⟩ := lateCount_bounds (count sound) limited sched (s.setCue n c).time.tick saturated
        have left := remaining_after most
        have some : (c.remaining - halfN (lateCount c sched (s.setCue n c).time.tick saturated)).toNat ≠ 0 :=
          fun zero => going (BitVec.eq_of_toNat_eq zero)
        omega

theorem moves_lateRule (n : Fin 48) (saturated : Bool) (s : State) : Moves s (lateRule n saturated s).state := by
  cases hc : s.cueAt n with
  | none =>
    rw [lateRule, hc]
    exact .refl s
  | some c =>
    cases hw : c.wait with
    | armed due sched overdue =>
      have moves := moves_lateRule_setCue (countKept_of_same hc rfl rfl) saturated hw
      rwa [setCue_self hc] at moves
    | inPulse trail sched mask ending =>
      simp only [lateRule, hc, hw]
      exact .refl s
    | hooked =>
      simp only [lateRule, hc, hw]
      exact .refl s

/-! ## Cuts (R48) -/

theorem moves_cutSlot (m : Half) (writer : Option (Fin 48)) (s : State) (n : Fin 48) : Moves s (cutSlot m writer s n) := by
  unfold cutSlot
  split
  · exact .refl s
  · split
    next => exact .refl s
    next c hc =>
      cases hw : c.wait with
      | armed due sched overdue => exact .refl s
      | hooked => exact .refl s
      | inPulse trail sched mask ending =>
        dsimp only
        split
        · exact .refl s
        · have cut : Moves s (s.setCue n { c with wait := .inPulse trail sched (mask &&& ~~~m) ending }) :=
            moves_setCue hc (by simp [Cue.key, hw]) (countKept_of_same hc rfl rfl)
          exact cut.then_still rfl rfl

theorem moves_cutBy (m : Half) (writer : Option (Fin 48)) (s : State) : Moves s (cutBy m writer s) :=
  .foldl (moves_cutSlot m writer) _ s

theorem moves_driveAndCut (m : Half) (k : LevelKind) (writer : Option (Fin 48)) (s : State) :
    Moves s (driveAndCut m k writer s) :=
  (Moves.of_cues (State.setChans_cues s _)).trans (moves_cutBy ..)

/-! ## The cue stage (R85 to R98) -/

theorem moves_markOverdue (n : Fin 48) (s : State) : Moves s (markOverdue n s) := by
  unfold markOverdue
  split
  next => exact .refl s
  next c hc =>
    cases hw : c.wait with
    | armed due sched overdue => exact moves_setCue hc (by simp [Cue.key, hw]) (countKept_of_same hc rfl rfl)
    | inPulse trail sched mask ending => exact .refl s
    | hooked => exact .refl s

theorem moves_countMasked (m : Half) (s : State) : Moves s (countMasked m s) := (Moves.refl s).then_still rfl rfl

theorem moves_trailingEdge (n : Fin 48) (s : State) : Moves s (trailingEdge n s) := by
  unfold trailingEdge
  split
  next => exact .refl s
  next c hc =>
    cases hw : c.wait with
    | armed due sched overdue => exact .refl s
    | hooked => exact .refl s
    | inPulse trail sched mask ending =>
      dsimp only
      generalize hu : countMasked _ (s.setChans _) = u
      have written : Moves s u := hu ▸ (Moves.of_cues (State.setChans_cues s _)).trans (moves_countMasked ..)
      have cue : u.cueAt n = some c := by
        rw [← hu, OutputChannels.countMasked_cueAt, OutputChannels.setChans_cueAt, hc]
      have turned : Moves s (u.setCue n { c with wait := .inPulse trail sched 0 ending }) :=
        written.trans (moves_setCue cue (by simp [Cue.key, hw]) (countKept_of_same cue rfl rfl))
      split
      · exact turned.trans (moves_freeSlot n _)
      · exact turned.trans (moves_completeOccurrence n _)

theorem moves_countFired (n : Fin 48) (c : Cue) (notify : Bool) (s : State) : Moves s (countFired n c notify s) := by
  unfold countFired
  split
  · exact (Moves.refl s).then_still rfl rfl
  · exact (Moves.refl s).then_still rfl rfl

theorem moves_skipOccurrence (n : Fin 48) (c : Cue) (s : State) : Moves s (skipOccurrence n c s) := by
  unfold skipOccurrence
  refine Moves.trans ?_ (moves_completeOccurrence n _)
  split
  · exact (Moves.refl s).then_still rfl rfl
  · exact (Moves.refl s).then_still rfl rfl

/-- R94 to R96: a firing that completes its occurrence. -/
theorem moves_fired {s : State} {n : Fin 48} {c : Cue} (h : s.cueAt n = some c) (notify : Bool) :
    Moves s (completeOccurrence n (countFired n c notify (s.setCue n { c with fired := c.fired + 1 }))) := by
  have changed : Moves s (s.setCue n { c with fired := c.fired + 1 }) :=
    moves_setCue h rfl (countKept_of_same h rfl rfl)
  exact (changed.trans (moves_countFired ..)).trans (moves_completeOccurrence n _)

theorem moves_fireAction {s : State} {n : Fin 48} {c : Cue} (h : s.cueAt n = some c) (led : Led) :
    Moves s (fireAction n c s led).1 := by
  unfold fireAction
  split
  next => exact moves_fired h true
  next kind _ =>
    dsimp only
    generalize hu : countMasked _ (driveAndCut _ kind (some n) s) = u
    have driven : Moves s u := hu ▸ (moves_driveAndCut ..).trans (moves_countMasked ..)
    have cue : u.cueAt n = some c := by
      rw [← hu, OutputChannels.countMasked_cueAt, OutputChannels.driveAndCut_cueAt, if_pos rfl, h]
    split
    · refine (driven.trans ?_).trans (moves_countFired ..)
      exact moves_place rfl rfl rfl (countKept_of_same cue rfl rfl)
    · exact driven.trans (moves_fired cue c.notifyFire)

theorem moves_leadingAction (n : Fin 48) (p : State × Led) : Moves p.1 (leadingAction n p).1 := by
  unfold leadingAction
  split
  next => exact .refl _
  next c hc =>
    split
    · exact moves_fireAction hc p.2
    · split
      · exact moves_endSeries_self n 1 p.1
      · exact moves_skipOccurrence n c p.1

theorem moves_cueStage (s : State) : Moves s (cueStage s) := by
  have passed := Moves.foldl (fun s n => moves_markOverdue n s) (s.cues.due.filter (overdueDue s)) s
  have trailed := passed.trans (.foldl (fun s n => moves_trailingEdge n s) (s.cues.due.filter (trailingDue s)) _)
  have led := List.foldlRecOn (motive := fun p : State × Led => Moves s p.1) (s.cues.due.filter (leadingDue s))
    (fun p n => leadingAction n p) (b := (_, Led.start)) trailed fun p hp n _ => hp.trans (moves_leadingAction n p)
  unfold cueStage reportConflict
  dsimp only
  split
  · exact led
  · exact led.then_still rfl rfl

/-! ## Hooked cues (R102, R103) -/

theorem moves_hookSlot (line : Fin 8) (rising : Bool) (s : State) (n : Fin 48) : Moves s (hookSlot line rising s n) := by
  unfold hookSlot
  split
  next => exact .refl s
  next c hc =>
    split
    next => exact .refl s
    next =>
      have armed (due : Tick) : Moves s (place n (s.setCue n { c with wait := .armed due due false })) :=
        moves_place rfl rfl rfl (countKept_of_same hc rfl rfl)
      dsimp only
      repeat' split
      · exact armed _
      · exact armed _
      · exact .refl s
      · exact .refl s
      · exact .refl s

theorem moves_hookEdge (line : Fin 8) (rising : Bool) (s : State) : Moves s (hookEdge line rising s) :=
  .foldl (moves_hookSlot line rising) _ s

end Sys2Proof.TheCueTable
end

section
/-! PROOFS. The moves of the cue table through a tick, stand-in, the warden and the store. -/

open Sys2Proof Sys2Proof.Machine

namespace Sys2Proof.TheCueTable

/-! ## The tick (R36, R102, R103, R168, R169) -/

theorem logEdge_cues (line : Fin 8) (rising : Bool) (s : State) : (logEdge line rising s).cues = s.cues := by
  unfold logEdge
  split
  · split
    · simp only [storeEdge]
      split <;> rfl
    · simp only [overflowEdge]
      split <;> rfl
  · rfl

theorem moves_qualifyEdge (n : Fin 8) (s : State) : Moves s (qualifyEdge n s) := by
  unfold qualifyEdge
  split
  next => exact .refl s
  next rising _ =>
    have turned : Moves s (s.setLine n { s.edges.lines[n] with filtered := if rising then .high else .low }) := .of_cues rfl
    exact (turned.then_cues (logEdge_cues n rising _)).trans (moves_hookEdge n rising _)

theorem moves_sampleLine (s : State) (n : Fin 8) : Moves s (sampleLine s n) := by
  unfold sampleLine
  dsimp only
  split
  · exact .of_cues rfl
  · have sampled : Moves s (s.setLine n (s.edges.lines[n].sample (s.pins.inputs.ins.getLsbD n.val))) := .of_cues rfl
    exact sampled.trans (moves_qualifyEdge n _)

theorem moves_countTick (s : State) : Moves s (countTick s) := by
  unfold countTick countFrozen
  split
  · exact (Moves.refl s).then_still rfl rfl
  · exact .of_cues rfl

theorem moves_applyStep (s : State) (x : ProgramStep) : Moves s (applyStep s x) := moves_driveAndCut ..

theorem cycleEnd_cues (s : State) : (cycleEnd s).cues = s.cues := by
  unfold cycleEnd
  repeat' split
  all_goals rfl

theorem advance_cues (s : State) : (advance s).cues = s.cues := by
  unfold advance
  split
  · exact cycleEnd_cues s
  · rfl

theorem moves_standStage (s : State) : Moves s (standStage s) := by
  unfold standStage
  split
  · split
    · exact .refl s
    · exact (Moves.foldl moves_applyStep _ s).then_cues (advance_cues _)
  · exact .refl s

theorem moves_tick (s : State) : Moves s (tick s) := by
  unfold tick
  split
  · have counted := moves_countTick s
    have sampled := counted.trans (.foldl moves_sampleLine (List.finRange 8) _)
    exact ((sampled.trans (moves_cueStage _)).trans (moves_standStage _)).then_cues (settle_cues _)
  · exact .refl s

/-! ## Stand-in entry and return (R49, R161, R162, R173) -/

theorem moves_requestStandin (c : Cause) (s : State) : Moves s (requestStandin c s) := by
  unfold requestStandin
  split
  · have started : Moves s (entryStart c s) := .of_cues (entryStart_cues c s)
    have driven : Moves s (entryDrive (entryStart c s)) :=
      (started.then_cues (State.setChans_cues _ _)).trans (moves_cutBy ..)
    exact driven.then_cues (by simp [enterStandin, entryImage])
  · exact .of_cues rfl

theorem returnToHost_cues (s : State) : (returnToHost s).cues = s.cues := by
  have evaluated : (evaluateAtReturn (leaveStandin s)).cues = s.cues := by
    unfold evaluateAtReturn
    split
    · exact evaluateBanks_cues _
    · rfl
  simpa [returnToHost] using evaluated

/-! ## The warden (R143, R148, R149) -/

theorem moves_wardenResponse (s : State) : Moves s (wardenResponse s) := by
  have requested : Moves s (if s.ward.respStandin then requestStandin .warden s else s) := by
    split
    · exact moves_requestStandin .warden s
    · exact .refl s
  have pulsed (t : State) : (if t.ward.respHrst then startHrst t else t).cues = t.cues := by
    split <;> rfl
  exact requested.then_cues (pulsed _)

theorem moves_wardenFault (k : FaultKind) (s : State) : Moves s (wardenFault k s) := by
  have recorded : Moves s (recordFault k s) := .of_cues (recordFault_cues k s)
  simp only [wardenFault]
  split
  · exact recorded.trans (moves_wardenResponse _)
  · exact recorded

theorem moves_wardenTimeout (s : State) : Moves s (wardenTimeout s) := (moves_wardenFault .late s).then_cues rfl

/-! ## The store engine (R177, R178, R182, R184, R191) -/

theorem programComplete_cues (takes : Bool) (s : State) : (programComplete takes s).cues = s.cues := by
  unfold programComplete
  split
  · simp only [endProgram, goIdle_cues]
    split
    · rw [wantEvaluation_cues]
      split <;> simp
    · split <;> simp
  all_goals rfl

theorem appendComplete_cues (takes : Bool) (s : State) : (appendComplete takes s).cues = s.cues := by
  unfold appendComplete
  split
  · simp only [endAppend, goIdle_cues]
    split <;> simp
  all_goals rfl

theorem wipeStepComplete_cues (takes : Bool) (s : State) : (wipeStepComplete takes s).cues = s.cues := by
  unfold wipeStepComplete
  split
  · simp only [endWipeStep]
    split <;> simp
  all_goals rfl

theorem wipeComplete_cues (s : State) : (wipeComplete s).cues = s.cues := by
  unfold wipeComplete
  split
  · simp [endWipe]
  all_goals rfl

theorem storeStep_cues (busy takes : Bool) (s : State) : (storeStep busy takes s).cues = s.cues := by
  rw [storeStep, takeUpJournal_cues]
  split
  · unfold advanceStore
    split
    · exact programComplete_cues takes s
    · split
      · exact appendComplete_cues takes s
      · split
        · exact wipeStepComplete_cues takes s
        · split
          · exact wipeComplete_cues s
          · rfl
  · rfl

/-! ## The warden-millisecond event (R38) -/

theorem substitute_cues (s : State) : (substitute s).cues = s.cues := by simp [substitute]

theorem clockStep_cues (xinEdge : Bool) (s : State) : (clockStep xinEdge s).cues = s.cues := by
  unfold clockStep
  dsimp only
  split
  · exact substitute_cues _
  · rfl

theorem countFsafe_cues (s : State) : (countFsafe s).cues = s.cues := by
  unfold countFsafe
  split <;> rfl

theorem fsafeClear_cues (s : State) : (fsafeClear s).cues = s.cues := countFsafe_cues s

theorem moves_fsafeAssert (s : State) : Moves s (fsafeAssert s) := by
  have asserted : Moves s (s.setWard { s.ward with fsafeAsserted := true, fsafeRun := 0, fsafeDur := 0 }) := .of_cues rfl
  exact asserted.trans (moves_requestStandin .fsafe _)

theorem moves_fsafeStep (s : State) : Moves s (fsafeStep s) := by
  unfold fsafeStep
  split
  · exact .refl s
  · split
    · exact moves_fsafeAssert s
    · split
      · exact .of_cues (fsafeClear_cues s)
      · exact .of_cues (countFsafe_cues s)

theorem moves_wardenStep (s : State) : Moves s (wardenStep s) := by
  unfold wardenStep
  split
  · exact .refl s
  · split
    · exact moves_wardenTimeout s
    · exact .of_cues rfl

theorem hrstStep_cues (started : Bool) (s : State) : (hrstStep started s).cues = s.cues := by
  unfold hrstStep
  split <;> rfl

theorem windowStep_cues (s : State) : (windowStep s).cues = s.cues := by
  unfold windowStep
  repeat' split
  all_goals rfl

theorem moves_wardenMsEvent (ms : MsInputs) (s : State) : Moves s (wardenMsEvent ms s) := by
  unfold wardenMsEvent
  split
  · exact .refl s
  · exact .of_cues rfl
  · have monitored : Moves s (clockStep ms.xinEdge (countMs s)) := .of_cues (clockStep_cues ..)
    have judged := (monitored.trans (moves_fsafeStep _)).trans (moves_wardenStep _)
    refine judged.then_cues ?_
    rw [wardenMsSteps, settle_cues, storeStep_cues, windowStep_cues, hrstStep_cues]

end Sys2Proof.TheCueTable
end

section
/-! PROOFS. The moves of the cue table through the commands. -/

open Sys2Proof Sys2Proof.Machine

namespace Sys2Proof.TheCueTable

/-- Whatever its parameters, a command makes moves of the cue table. -/
def MovesCues (cmd : Command) : Prop := ∀ params s, Moves s (cmd.body params s).state

/-- A command that leaves the cue table alone. -/
theorem MovesCues.of_cues {cmd : Command} (h : ∀ params s, (cmd.body params s).state.cues = s.cues) : MovesCues cmd :=
  fun params s => .of_cues (h params s)

/-! ## Groups that leave the cue table alone -/

theorem sysCommand_movesCues {code : Byte} {cmd : Command} (h : sysCommand code = some cmd) : MovesCues cmd := by
  refine .of_cues fun params s => ?_
  unfold sysCommand at h
  repeat' split at h
  all_goals cases h
  all_goals
    simp only [plain, request, cmdSysStatus, cmdSysIdentify, cmdSysCause, cmdSysResetReq, cmdSysResetConfirm, cmdSysUnstick]
    repeat' split
    all_goals rfl

theorem timeCommand_movesCues {code : Byte} {cmd : Command} (h : timeCommand code = some cmd) : MovesCues cmd := by
  refine .of_cues fun params s => ?_
  unfold timeCommand at h
  repeat' split at h
  all_goals cases h
  all_goals
    simp only [plain, cmdTimeRead, cmdTimeRun, cmdTimeStop, cmdTimeSet, cmdTimeRate, cmdTimeRestore]
    repeat' split
    all_goals rfl

theorem edgeCommand_movesCues {code : Byte} {cmd : Command} (h : edgeCommand code = some cmd) : MovesCues cmd := by
  refine .of_cues fun params s => ?_
  unfold edgeCommand at h
  repeat' split at h
  all_goals cases h
  all_goals
    simp only [plain, cmdEdgeSetup, cmdEdgePolicy, cmdEdgeRead, cmdEdgeFlush, cmdEdgeStatus]
    repeat' split
    all_goals rfl

theorem noteCommand_movesCues {code : Byte} {cmd : Command} (h : noteCommand code = some cmd) : MovesCues cmd := by
  refine .of_cues fun params s => ?_
  unfold noteCommand at h
  repeat' split at h
  all_goals cases h
  all_goals
    simp only [plain, cmdNoteFirst, cmdNoteNext, cmdNoteEnable, cmdNoteStatus]
    repeat' split
    all_goals rfl

theorem storeCommand_movesCues {code : Byte} {cmd : Command} (h : storeCommand code = some cmd) : MovesCues cmd := by
  refine .of_cues fun params s => ?_
  unfold storeCommand at h
  repeat' split at h
  all_goals cases h
  all_goals
    simp only [plain, request, cmdStoreRead, cmdStoreLoad, cmdStoreClear, cmdStoreOpen, cmdStoreProgram, cmdStoreLock,
      cmdStoreWipe, cmdStoreStatus, cmdStoreJournal]
    repeat' split
    all_goals rfl

/-! ## Groups WARD, STAND and CHAN -/

theorem wardBeat_movesCues : MovesCues (plain cmdWardBeat) := by
  intro params s
  simp only [plain, cmdWardBeat]
  have bad (k : FaultKind) : Moves s (badBeat k s).state := (moves_wardenFault k s).then_cues rfl
  repeat' split
  · exact .refl s
  · exact bad .early
  · exact bad .wrongCount
  · exact .of_cues rfl
  · exact .refl s

theorem wardCommand_movesCues {code : Byte} {cmd : Command} (h : wardCommand code = some cmd) : MovesCues cmd := by
  by_cases beat : code = 0x62
  · subst beat
    obtain rfl : plain cmdWardBeat = cmd := Option.some.inj h
    exact wardBeat_movesCues
  · refine .of_cues fun params s => ?_
    unfold wardCommand at h
    rw [if_neg beat] at h
    repeat' split at h
    all_goals cases h
    all_goals
      simp only [plain, request, cmdWardSetup, cmdWardArm, cmdWardDisarmReq, cmdWardDisarmConfirm, cmdWardStatus]
      repeat' split
      all_goals rfl

theorem standCommand_movesCues {code : Byte} {cmd : Command} (h : standCommand code = some cmd) : MovesCues cmd := by
  unfold standCommand at h
  repeat' split at h
  all_goals cases h
  all_goals
    intro params s
    simp only [plain, request, cmdStandEnter, cmdStandReturnReq, cmdStandReturnConfirm, cmdStandStatus]
  · split
    · exact moves_requestStandin .command s
    · exact .refl s
  · repeat' split
    all_goals exact .refl s
  · repeat' split
    · exact .refl s
    · exact .refl s
    · exact .refl s
    · exact .of_cues (returnToHost_cues s)
    · exact .refl s
  · split
    · exact .refl s
    · exact .refl s

theorem chanForce_movesCues : MovesCues (plain cmdChanForce) := by
  intro params s
  simp only [plain, cmdChanForce]
  split
  · split
    · exact .refl s
    · split
      · exact .refl s
      · split
        · exact .refl s
        · rw [OutputChannels.done_state]
          exact moves_driveAndCut _ _ none s
  · exact .refl s

theorem chanCommand_movesCues {code : Byte} {cmd : Command} (h : chanCommand code = some cmd) : MovesCues cmd := by
  by_cases force : code = 0x31
  · subst force
    obtain rfl : plain cmdChanForce = cmd := Option.some.inj h
    exact chanForce_movesCues
  · refine .of_cues fun params s => ?_
    unfold chanCommand at h
    rw [if_neg force] at h
    repeat' split at h
    all_goals cases h
    all_goals
      simp only [plain, cmdChanSetup, cmdChanSeal, cmdChanRead]
      repeat' split
      all_goals rfl

/-! ## Group CUE (R73 to R83, R104, R105) -/

/-- R67, R73: what CUE.ADD makes of a HOOK cue is HOOKED, of an AT_TIME cue ARMED, with all its occurrences before it. -/
theorem fresh_of_parseCue {p : List Byte} {c : Cue} (h : parseCue p = some c) :
    c.remaining = c.occurrences ∧ ∀ line edge delay, c.trigger = .hook line edge delay → c.wait = .hooked := by
  simp only [parseCue] at h
  split at h
  next trigger action guard _ _ _ =>
    split at h
    · cases h
      refine ⟨rfl, fun line edge delay hook => ?_⟩
      simp only at hook ⊢
      rw [hook]
    · cases h
  next => cases h

/-- R61: the slot that a new cue takes is FREE. -/
theorem lowestFree_free {s : State} {n : Fin 48} (h : lowestFree s = some n) : s.cueAt n = none :=
  Option.isNone_iff_eq_none.1 (List.find?_some (p := fun n => (s.cueAt n).isNone) h)

/-- R74, R79: a cue that is put in a slot at a due tick. -/
theorem moves_settleDue {s : State} {n : Fin 48} {c : Cue} (count : CountKept s n c) (due : Tick) (cls : DueClass) :
    Moves s (settleDue n c due cls s).state := by
  have count : CountKept s n { c with trigger := .atTime due, wait := .armed due due false } := count
  cases cls with
  | late => exact moves_lateRule_setCue count false rfl
  | acceptable => exact moves_place rfl rfl rfl count
  | beyond => exact moves_place rfl rfl rfl count

theorem cueAdd_movesCues : MovesCues (plain cmdCueAdd) := by
  intro params s
  simp only [plain, cmdCueAdd]
  split
  · exact .refl s
  · split
    next => exact .refl s
    next c hc =>
      obtain ⟨full, hooked⟩ := fresh_of_parseCue hc
      unfold addCue
      split
      next line edge delay hook =>
        split
        · exact .refl s
        next n free =>
          have key : c.key = none := by rw [Cue.key, hooked line edge delay hook]
          exact (TableMove.joined n c (lowestFree_free free) key (countSound_full full) rfl rfl).moves
      · dsimp only
        split
        · exact .refl s
        · split
          · exact .refl s
          · split
            · exact .refl s
            · exact moves_settleDue (fun _ => countSound_full full) ..

theorem resolveHandle_live {h : Half} {s : State} {n : Fin 48} {c : Cue} (live : resolveHandle h s = .live n c) :
    s.cueAt n = some c := by
  unfold resolveHandle at live
  split at live
  · dsimp only at live
    split at live
    · cases live
    next d hd =>
      split at live
      · cases live
        exact hd
      · cases live
  · cases live

theorem cueAmend_movesCues : MovesCues (plain cmdCueAmend) := by
  intro params s
  simp only [plain, cmdCueAmend]
  split
  · exact .refl s
  · split
    · exact .refl s
    · exact .refl s
    next n c live =>
      repeat' split
      · exact .refl s
      · exact .refl s
      · exact .refl s
      · exact moves_settleDue (countKept_of_same (resolveHandle_live live) rfl rfl) ..

theorem moves_cancelSlot (m : CancelMode) (n : Fin 48) (s : State) : Moves s (cancelSlot m n s).2 := by
  unfold cancelSlot
  split
  next => exact .refl s
  next => exact moves_freeSlot n s
  next c hc =>
    split
    next => exact moves_freeSlot n s
    next => exact moves_freeSlot n s
    next hw => exact moves_setCue hc (by simp [Cue.key, hw]) (countKept_of_same hc rfl rfl)

theorem cueCancel_movesCues : MovesCues (plain cmdCueCancel) := by
  intro params s
  simp only [plain, cmdCueCancel]
  split
  · split
    · exact .refl s
    · exact .refl s
    · exact .refl s
    · exact moves_cancelSlot ..
  · exact .refl s

theorem moves_purge (m : CancelMode) (slots : List (Fin 48)) (s : State) :
    Moves s (slots.foldl (purgeOne m) (0, 0, s)).2.2 :=
  List.foldlRecOn (motive := fun acc : Nat × Nat × State => Moves s acc.2.2) slots (purgeOne m) (.refl s)
    fun acc hacc n _ => by
      unfold purgeOne
      dsimp only
      split
      · exact hacc.trans (moves_cancelSlot m n _)
      · exact hacc.trans (moves_cancelSlot m n _)

theorem cuePurge_movesCues : MovesCues (plain cmdCuePurge) := by
  intro params s
  simp only [plain, cmdCuePurge]
  split
  · split
    · exact .refl s
    · repeat' split
      · exact .refl s
      · exact .refl s
      · exact moves_purge ..
  · exact .refl s

theorem moves_thaw (s : State) : Moves s (thaw s).state :=
  List.foldlRecOn (motive := fun t : ThawTally => Moves s t.state) (overdueSlots s) _
    ((Moves.refl s).then_still rfl rfl) fun t ht n _ => ht.trans (moves_lateRule n _ t.state)

theorem cueThaw_movesCues : MovesCues (plain cmdCueThaw) := by
  intro params s
  simp only [plain, cmdCueThaw]
  repeat' split
  · exact .refl s
  · exact moves_thaw s
  · exact .refl s

theorem cueFreeze_movesCues : MovesCues (plain cmdCueFreeze) := by
  intro params s
  simp only [plain, cmdCueFreeze]
  repeat' split
  · exact .refl s
  · exact (Moves.refl s).then_still rfl rfl
  · exact .refl s

theorem cueCommand_movesCues {code : Byte} {cmd : Command} (h : cueCommand code = some cmd) : MovesCues cmd := by
  unfold cueCommand at h
  repeat' split at h
  all_goals cases h
  · exact cueAdd_movesCues
  · exact cueCancel_movesCues
  · exact cueAmend_movesCues
  · refine .of_cues fun params s => ?_
    simp only [plain, cmdCueQuery]
    repeat' split
    all_goals rfl
  · refine .of_cues fun params s => ?_
    simp only [plain, cmdCueList]
    repeat' split
    all_goals rfl
  · refine .of_cues fun params s => ?_
    simp only [plain, cmdCueHooks]
    repeat' split
    all_goals rfl
  · exact cuePurge_movesCues
  · exact cueFreeze_movesCues
  · exact cueThaw_movesCues
  · refine .of_cues fun params s => ?_
    cases params <;> rfl

/-! ## The catalogue (R24) -/

theorem commandFor_movesCues (code : Byte) : MovesCues (commandFor code) := by
  have known : ∀ cmd, commandOf code = some cmd → MovesCues cmd := by
    intro cmd h
    unfold commandOf at h
    split at h
    · exact sysCommand_movesCues h
    · exact timeCommand_movesCues h
    · exact cueCommand_movesCues h
    · exact chanCommand_movesCues h
    · exact edgeCommand_movesCues h
    · exact noteCommand_movesCues h
    · exact wardCommand_movesCues h
    · exact standCommand_movesCues h
    · exact storeCommand_movesCues h
    · cases h
  unfold commandFor
  cases h : commandOf code with
  | none => exact .of_cues fun _ _ => rfl
  | some cmd => exact known cmd h

end Sys2Proof.TheCueTable
end

section
/-! PROOFS. The moves of the cue table through every row. -/

open Sys2Proof Sys2Proof.Machine

namespace Sys2Proof.TheCueTable

/-! ## Resets (R84, R195) -/

theorem moves_takeReset (k : ResetKind) (s : State) : Moves s (takeReset k s) := (TableMove.cleared (takeReset_cues k s)).moves

theorem moves_nCsRises (s : State) : Moves s (nCsRises s) := by
  unfold nCsRises
  split
  · exact moves_takeReset .soft s
  · exact .refl s

theorem moves_meetPins (pins : InPins) (s : State) : Moves s (meetPins pins s) := by
  unfold meetPins
  split
  · exact (moves_nCsRises s).then_cues rfl
  · exact .of_cues rfl

/-! ## Transactions (R8 to R13, R22) -/

theorem moves_finish (opens : Option WindowKind) (x : Span) (seq : Byte) (r : Reply) : Moves r.state (finish opens x seq r) := by
  have answered : Moves r.state (respond x seq r.status r.payload false
      ((settle r.state).setPort (portAfter opens seq r (settle r.state).port))) := .of_cues rfl
  unfold finish softAtOnce
  dsimp only
  split
  · exact answered.trans (moves_nCsRises _)
  · exact answered

theorem moves_serveIntact {cmd : Command} (h : MovesCues cmd) (x : Span) (seq : Byte) (params : List Byte) (s : State) :
    Moves s (serveIntact cmd x seq params s) := by
  unfold serveIntact
  split
  · unfold replay
    split
    · exact .refl s
    · exact .of_cues rfl
  · exact (h params s).trans (moves_finish ..)

theorem moves_evaluate (bits : List Bool) (s : State) : Moves s (evaluate bits s) := by
  unfold evaluate
  dsimp only
  split
  · exact .refl s
  · exact .of_cues rfl
  · exact moves_finish _ _ _ (fail .format s)
  · exact .of_cues rfl
  · exact moves_serveIntact (commandFor_movesCues _) ..

theorem moves_refuse (bits : List Bool) (s : State) : Moves s (refuse bits s) := by
  unfold refuse
  split
  · exact .refl s
  · exact .of_cues rfl

theorem moves_whenReady (clocks : Nat) (fresh : Bool) (pins : InPins) {serve : State → State} (served : ∀ t, Moves t (serve t))
    (s : State) : Moves s (whenReady clocks fresh pins serve s) := by
  have risen := moves_nCsRises s
  unfold whenReady
  dsimp only
  split
  · exact risen.then_cues rfl
  · have met : Moves s (meetInputs pins (stopIgnoring (nCsRises s))) := risen.then_cues rfl
    exact met.trans (served _)

/-! ## Events of the clocks -/

theorem moves_occur (due : Bool) {effect : State → State} (moves : ∀ s, Moves s (effect s)) (s : State) :
    Moves s (occur due effect s) := by
  unfold occur
  split
  · exact (moves s).then_cues (settle_cues _)
  · exact .refl s

/-- An event that leaves the cue table alone. -/
theorem moves_occur_of_cues (due : Bool) {effect : State → State} (same : ∀ s, (effect s).cues = s.cues) (s : State) :
    Moves s (occur due effect s) :=
  moves_occur due (fun s => .of_cues (same s)) s

theorem moves_inTick (due : Bool) {effect : State → State} (moves : ∀ s, Moves s (effect s)) (s : State) :
    Moves s (inTick due effect s) :=
  moves_occur _ moves s

theorem sourcePeriod_cues (s : State) : (sourcePeriod s).cues = s.cues := by
  unfold sourcePeriod dividePeriod seePeriod
  repeat' split
  all_goals rfl

/-! ## The power-up sequence (R199, R200) -/

theorem moves_powerUpStep (p : PowerUp) (i : Nat) (s : State) : Moves s (powerUpStep p i s) := by
  have counted (n : Nat) : Moves s (countMsTimes n s) := .of_cues (OutputChannels.countMsTimes_cues n s)
  unfold powerUpStep
  dsimp only
  split
  · exact .of_cues rfl
  · exact .of_cues rfl
  · exact .of_cues rfl
  · exact .of_cues rfl
  · exact .of_cues rfl
  · split
    · exact .of_cues rfl
    · exact .refl s
  · unfold enterAtPowerUp
    split
    · exact (counted _).trans (moves_requestStandin .powerUp _)
    · exact counted _
  · refine (counted p.msBeforeRecords).then_cues ?_
    unfold reportReset reportConfig
    split <;> simp
  · exact .refl s

theorem stepDone_cues (i : Nat) (s : State) : (stepDone i s).cues = s.cues := by
  unfold stepDone
  split <;> rfl

theorem moves_powerUpFrom (done : Nat) (p : PowerUp) (s : State) : Moves s (powerUpFrom done p s) := by
  have carried := Moves.foldl (f := carryOut p) (fun s i => (moves_powerUpStep p i s).then_cues (stepDone_cues i _))
    (List.range' (done + 1) (p.steps.val - done)) s
  exact carried.then_cues (settle_cues _)

theorem moves_powerUp (p : PowerUp) (s : State) : Moves s (powerUp p s) := by
  unfold powerUp
  split
  · have released : Moves s (release p.xinEdge p.pins s) := .of_cues rfl
    exact released.trans (moves_powerUpFrom 0 p _)
  · split
    · have resumed : Moves s (meetInputs p.pins (s.setTime { s.time with xinSeen := s.time.xinSeen || p.xinEdge })) :=
        .of_cues rfl
      exact resumed.trans (moves_powerUpFrom _ p _)
    · exact .refl s
  · exact .refl s

/-! ## The rows -/

theorem moves_command {c : Instr} (command : eventClass c = .command) (s : State) : ∃ t, exec c s = .next t ∧ Moves s t := by
  rcases OutputChannels.exec_of_commandClass command with ⟨code, f, row⟩ | ⟨t, row⟩ | ⟨t, row⟩
  · exact ⟨_, row s, moves_whenReady _ _ _ (moves_serveIntact (commandFor_movesCues code) _ _ _) s⟩
  · exact ⟨_, row s, moves_whenReady _ _ _ (moves_evaluate _) s⟩
  · exact ⟨_, row s, moves_whenReady _ _ _ (moves_refuse _) s⟩

theorem moves_exec (c : Instr) (s : State) : ∃ t, exec c s = .next t ∧ Moves s t := by
  by_cases command : eventClass c = .command
  · exact moves_command command s
  · cases c with
    | confirmWindowExpiry => exact ⟨_, rfl, moves_occur_of_cues _ (effect := closeWindow) (fun _ => rfl) s⟩
    | tick pins => exact ⟨_, rfl, (moves_meetPins pins s).trans (moves_tick _)⟩
    | wardenMsEvent ms => exact ⟨_, rfl, (moves_meetPins ms.pins s).trans (moves_wardenMsEvent ms _)⟩
    | clockSubst => exact ⟨_, rfl, moves_occur_of_cues _ substitute_cues s⟩
    | qualifiedEdge line => exact ⟨_, rfl, moves_inTick _ (moves_qualifyEdge line) s⟩
    | trailingEdge slot => exact ⟨_, rfl, moves_inTick _ (moves_trailingEdge slot) s⟩
    | leadingAction slot => exact ⟨_, rfl, moves_inTick _ (fun s => moves_leadingAction slot (s, Led.start)) s⟩
    | cueOverdue slot => exact ⟨_, rfl, moves_inTick _ (moves_markOverdue slot) s⟩
    | wardenTimeout => exact ⟨_, rfl, moves_occur _ moves_wardenTimeout s⟩
    | closedPhaseEnd => exact ⟨_, rfl, moves_occur_of_cues _ (effect := passMs) (fun _ => rfl) s⟩
    | nhrstPulseEnd => exact ⟨_, rfl, moves_occur_of_cues _ (effect := countHrst) (fun _ => rfl) s⟩
    | fsafeAssert => exact ⟨_, rfl, moves_occur _ moves_fsafeAssert s⟩
    | fsafeClear => exact ⟨_, rfl, moves_occur_of_cues _ fsafeClear_cues s⟩
    | standinCycleEnd => exact ⟨_, rfl, moves_inTick _ (fun s => .of_cues (cycleEnd_cues s)) s⟩
    | storeProgramComplete takes => exact ⟨_, rfl, moves_occur_of_cues _ (programComplete_cues takes) s⟩
    | wipeStepComplete takes => exact ⟨_, rfl, moves_occur_of_cues _ (wipeStepComplete_cues takes) s⟩
    | wipeComplete => exact ⟨_, rfl, moves_occur_of_cues _ wipeComplete_cues s⟩
    | journalAppendStart => exact ⟨_, rfl, moves_occur_of_cues _ startAppend_cues s⟩
    | journalAppendComplete takes => exact ⟨_, rfl, moves_occur_of_cues _ (appendComplete_cues takes) s⟩
    | powerOnReset => exact ⟨_, rfl, moves_takeReset .powerOn s⟩
    | brownoutReset => exact ⟨_, rfl, moves_takeReset .brownout s⟩
    | pinReset => exact ⟨_, rfl, moves_takeReset .pin s⟩
    | softReset => exact ⟨_, rfl, moves_meetPins _ s⟩
    | powerUpSequence p => exact ⟨_, rfl, moves_powerUp p s⟩
    | portReady =>
      refine ⟨_, rfl, ?_⟩
      split
      · exact .of_cues rfl
      · exact .refl s
    | _ => exact absurd rfl command

/-- Every step makes moves of the cue table and nothing else of it. -/
theorem moves_of_step {s t : State} (stepped : step s = .next t) : Moves s t := by
  unfold step at stepped
  split at stepped
  · cases stepped
    exact .of_cues (sourcePeriod_cues s)
  next c rest _ =>
    have dequeued : Moves s (s.setPending rest) := .of_cues rfl
    obtain ⟨u, row, moves⟩ := moves_exec c (s.setPending rest)
    cases row.symm.trans stepped
    exact dequeued.trans moves

/-- Settles O57: every step is moves of the cue table, each of which keeps both. -/
theorem dueListHoldsTheWaitingCues : Obligations.DueListHoldsTheWaitingCues := by
  unfold Obligations.DueListHoldsTheWaitingCues
  exact ⟨fun s t sound stepped => (moves_of_step stepped).dueListSound sound,
    fun s t sound stepped => (moves_of_step stepped).remainingSound sound⟩

end Sys2Proof.TheCueTable
end

section
/-! PROOFS. Handles, and the commands that read the cue table. -/

open Sys2Proof Sys2Proof.Machine Sys2Proof.TimebaseAndTicks

namespace Sys2Proof.TheCueTable

/-! ## Handles (R59, R60) -/

theorem handleOf_toNat (s : State) (n : Fin 48) : (handleOf s n).toNat = 1024 * n.val + s.cues.slots[n].gen.toNat := by
  have gen := s.cues.slots[n].gen.isLt
  rw [handleOf, halfN, BitVec.toNat_ofNat, Nat.mod_eq_of_lt (by omega)]
  omega

/-- R60: a handle whose slot holds a cue names it if the generations agree. -/
theorem resolveHandle_of_cue {h : Half} {s : State} {n : Fin 48} {c : Cue} (slot : h.toNat / 1024 = n.val)
    (hc : s.cueAt n = some c) :
    resolveHandle h s = if s.cues.slots[n].gen.toNat = h.toNat % 1024 then .live n c else .stale := by
  have lt : h.toNat / 1024 < 48 := by omega
  obtain rfl : (⟨h.toNat / 1024, lt⟩ : Fin 48) = n := Fin.ext slot
  rw [resolveHandle, dif_pos lt]
  dsimp only
  rw [hc]

/-- R60: a handle whose slot is FREE is stale. -/
theorem resolveHandle_of_free {h : Half} {s : State} {n : Fin 48} (slot : h.toNat / 1024 = n.val) (hc : s.cueAt n = none) :
    resolveHandle h s = .stale := by
  have lt : h.toNat / 1024 < 48 := by omega
  obtain rfl : (⟨h.toNat / 1024, lt⟩ : Fin 48) = n := Fin.ext slot
  rw [resolveHandle, dif_pos lt]
  dsimp only
  rw [hc]

/-- R60: a handle names no slot when its quotient is no slot's number. -/
theorem resolveHandle_invalid_iff (h : Half) (s : State) : resolveHandle h s = .invalid ↔ 48 ≤ h.toNat / 1024 := by
  by_cases lt : h.toNat / 1024 < 48
  · refine ⟨fun invalid => ?_, fun ge => absurd lt (by omega)⟩
    cases hc : s.cueAt ⟨h.toNat / 1024, lt⟩ with
    | none => rw [resolveHandle_of_free rfl hc] at invalid; cases invalid
    | some c =>
      rw [resolveHandle_of_cue rfl hc] at invalid
      split at invalid <;> cases invalid
  · rw [resolveHandle, dif_neg lt]
    exact ⟨fun _ => by omega, fun _ => rfl⟩

/-- R60: the handle that names a cue is the handle of its slot. -/
theorem handleOf_of_live {h : Half} {s : State} {n : Fin 48} {c : Cue} (live : resolveHandle h s = .live n c) :
    handleOf s n = h := by
  by_cases lt : h.toNat / 1024 < 48
  · cases hc : s.cueAt ⟨h.toNat / 1024, lt⟩ with
    | none => rw [resolveHandle_of_free rfl hc] at live; cases live
    | some d =>
      rw [resolveHandle_of_cue rfl hc] at live
      split at live
      next gen =>
        cases live
        apply BitVec.eq_of_toNat_eq
        rw [handleOf_toNat, gen]
        exact Nat.div_add_mod ..
      next => cases live
  · rw [(resolveHandle_invalid_iff h s).2 (by omega)] at live
    cases live

theorem freeSlot_gen (n : Fin 48) (s : State) : (freeSlot n s).cues.slots[n].gen = s.cues.slots[n].gen + 1 := by
  simp [freeSlot, unlist]

/-- R58: the generations before and after a slot is freed differ. -/
theorem gen_advanced (g : BitVec 10) : (g + 1).toNat ≠ g.toNat := by
  bv_omega

/-- Settles O23: a handle's quotient by 1024 is its slot and the remainder its generation, which freeing the slot advances. -/
theorem handlesNameLiveCues : Obligations.HandlesNameLiveCues := by
  unfold Obligations.HandlesNameLiveCues
  refine ⟨fun n c s hc => ?_, fun h s => ?_⟩
  · have value := handleOf_toNat s n
    have gen := s.cues.slots[n].gen.isLt
    have slot : (handleOf s n).toNat / 1024 = n.val := by omega
    have rest : (handleOf s n).toNat % 1024 = s.cues.slots[n].gen.toNat := by omega
    refine ⟨value, ?_, ?_, fun d => ?_⟩
    · rw [resolveHandle_of_cue slot hc, if_pos rest.symm]
    · exact resolveHandle_of_free slot (by rw [freeSlot_cueAt, if_pos rfl])
    · rw [resolveHandle_of_cue slot (State.setCue_cueAt_same _ n d), State.setCue_gen, freeSlot_gen, rest,
        if_neg (gen_advanced _)]
  · rw [resolveHandle_invalid_iff]
    omega

/-! ## CUE.QUERY, CUE.LIST and CUE.HOOKS (R80 to R82) -/

theorem be16_append (h l : Byte) : be16 (h ++ l) = [h, l] := by
  rw [be16, BitVec.extractLsb'_append_eq_left, BitVec.extractLsb'_append_eq_right]

theorem packBits_three (b2 b1 b0 : Bool) : Bits (packBits [b2, b1, b0]) [b0, b1, b2] := by
  cases b2 <;> cases b1 <;> cases b0 <;> unfold Bits <;> decide

/-- Table 4-3: the control byte and the guard byte are bytes 0 and 17 of a cue's record. -/
theorem cueBytes_control (c : Cue) : byteAt (cueBytes c) 0 = c.controlByte := rfl

theorem cueBytes_guard (c : Cue) : byteAt (cueBytes c) 17 = c.guardByte := by
  unfold cueBytes
  cases c.trigger <;> rfl

theorem reportedRemaining_eq (c : Cue) : c.reportedRemaining = if c.occurrences = 0 then 0 else c.remaining := by
  by_cases none : c.occurrences = 0 <;> simp [Cue.reportedRemaining, Cue.limited, none]

/-- R80: the payload of CUE.QUERY by the bytes of the cue's record. -/
theorem queryPayload_eq (h l : Byte) (c : Cue) :
    queryPayload (h ++ l) c =
      [h, l, c.wait.code, byteAt (cueBytes c) 0, c.action.code, byteAt (cueBytes c) 17] ++ be16 c.mask ++ be16 c.pending ++
        be32 (c.key.getD 0) ++ be32 (c.sched.getD 0) ++ be16 (if c.occurrences = 0 then 0 else c.remaining) ++ be16 c.tag ++
        be32 c.fired ++ [packBits [c.overdue, c.ending, c.begun]] := by
  rw [queryPayload, be16_append, cueBytes_control, cueBytes_guard, reportedRemaining_eq]
  rfl

/-- R81, R82: a command that lists some slots, with one parameter byte. -/
theorem serve_list {body : List Byte → State → Reply} {f : Frame} {s : State} {pos : Byte} {listed slots : List (Fin 48)}
    (h : Served f s) (params : f.params = [pos])
    (reply : body [pos] (met f.pins s) =
      if 47 < pos.toNat then fail .param (met f.pins s) else listReply listed pos.toNat (met f.pins s))
    (same : listed = slots) :
    serveCommand (plain body) f s =
      if 47 < pos.toNat then refusedWith f .param s
      else granted f (byteN slots.length :: byteN ((slots.drop pos.toNat).take 12).length ::
        ((slots.drop pos.toNat).take 12).flatMap fun n => be16 (handleOf s n)) (met f.pins s) := by
  subst same
  rw [← params] at reply
  split at reply
  next out => rw [if_pos out, serveCommand_fail h reply (by decide)]
  next within => rw [if_neg within, serveCommand_done h reply (served_softPending h) rfl]; rfl

theorem hookSlots_eq (s : State) : hookSlots s = (List.finRange 48).filter fun n =>
    match s.cueAt n with | none => false | some c => c.wait == .hooked := by
  unfold hookSlots
  congr 1
  funext n
  cases s.cueAt n <;> rfl

theorem serve_query_live {f : Frame} {s : State} (served : Served f s) {h l : Byte} (params : f.params = [h, l])
    {n : Fin 48} {c : Cue} (live : resolveHandle (h ++ l) s = .live n c) :
    serveCommand (plain cmdCueQuery) f s = granted f (queryPayload (h ++ l) c) (met f.pins s) := by
  refine serveCommand_done served ?_ (served_softPending served) rfl
  have named : resolveHandle (h ++ l) (met f.pins s) = .live n c := live
  have handle : handleOf (met f.pins s) n = h ++ l := handleOf_of_live live
  simp only [params, cmdCueQuery, named, handle]

/-- Settles O25: each command by the number of its parameters, CUE.QUERY by what the handle names. -/
theorem cueReadingCommandsReport : Obligations.CueReadingCommandsReport := by
  unfold Obligations.CueReadingCommandsReport
  intro f s served
  have format {body : List Byte → State → Reply} (refuse : body f.params (met f.pins s) = fail .format (met f.pins s)) :=
    serveCommand_fail served refuse (by decide)
  refine ⟨congrArg Host.Outcome.next ?_, congrArg Host.Outcome.next ?_, fun h l params => ?_, fun other => congrArg Host.Outcome.next (format ?_)⟩
  · rcases params : f.params with _ | ⟨pos, _ | ⟨b, rest⟩⟩
    · exact format (by rw [params]; rfl)
    · exact serve_list served params rfl rfl
    · exact format (by rw [params]; rfl)
  · rcases params : f.params with _ | ⟨pos, _ | ⟨b, rest⟩⟩
    · exact format (by rw [params]; rfl)
    · exact serve_list served params rfl (hookSlots_eq s)
    · exact format (by rw [params]; rfl)
  · cases named : resolveHandle (h ++ l) s with
    | invalid =>
      refine ⟨0, congrArg Host.Outcome.next (serveCommand_fail served ?_ (by decide)), fun n c live => nomatch live⟩
      have named : resolveHandle (h ++ l) (met f.pins s) = .invalid := named
      simp only [params, cmdCueQuery, named]
    | stale =>
      refine ⟨0, congrArg Host.Outcome.next (serveCommand_fail served ?_ (by decide)), fun n c live => nomatch live⟩
      have named : resolveHandle (h ++ l) (met f.pins s) = .stale := named
      simp only [params, cmdCueQuery, named]
    | live n c =>
      refine ⟨packBits [c.overdue, c.ending, c.begun], congrArg Host.Outcome.next ?_, fun _ d live => ?_⟩
      · rw [serve_query_live served params named, queryPayload_eq]
      · cases live
        exact packBits_three _ _ _
  · rcases params : f.params with _ | ⟨a, _ | ⟨b, _ | ⟨c, rest⟩⟩⟩
    · rfl
    · rfl
    · exact absurd (by rw [params]; rfl) other
    · rfl

end Sys2Proof.TheCueTable
end

section
/-! PROOFS. Cancelling cues. -/

open Sys2Proof Sys2Proof.Machine Sys2Proof.TimebaseAndTicks

namespace Sys2Proof.TheCueTable

/-! ## What cancelling does to the table (R76 to R78) -/

theorem purged_slots_getElem (selected ending : Fin 48 → Bool) (t : CueTable) (n : Fin 48) :
    (purged selected ending t).slots[n] =
      if selected n then
        if ending n then { t.slots[n] with cue := t.slots[n].cue.map Cue.marked }
        else { gen := t.slots[n].gen + 1, cue := none }
      else t.slots[n] := by
  simp [purged]

/-- Two cue tables with the same slots, the same due list and the same totals. -/
theorem purged_eq {selected ending : Fin 48 → Bool} {t u : CueTable} (slots : ∀ n : Fin 48, u.slots[n] = (purged selected ending t).slots[n])
    (due : u.due = (purged selected ending t).due) (rest : u = { t with slots := u.slots, due := u.due }) :
    u = purged selected ending t := by
  have all : u.slots = (purged selected ending t).slots := Vector.ext fun i hi => slots ⟨i, hi⟩
  rw [rest, all, due]
  rfl

/-- R58: freeing one slot. -/
theorem freeSlot_eq_purged (n : Fin 48) (s : State) :
    freeSlot n s = s.setCues (purged (fun k => k == n) (fun _ => false) s.cues) := by
  have table : (freeSlot n s).cues = purged (fun k => k == n) (fun _ => false) s.cues := by
    refine purged_eq (fun k => ?_) ?_ rfl
    · rw [purged_slots_getElem]
      by_cases h : k = n
      · subst h
        simp [freeSlot, unlist]
      · have h' : ¬ n.val = k.val := fun e => h (Fin.ext e.symm)
        simp [freeSlot, unlist, h, h']
    · rw [freeSlot_due]
      simp [purged, bne]
  rw [← table]
  rfl

/-- R77: marking the cue of one slot. -/
theorem setCue_marked_eq_purged {n : Fin 48} {c : Cue} {s : State} (hc : s.cueAt n = some c) :
    s.setCue n c.marked = s.setCues (purged (fun k => k == n) (fun _ => true) s.cues) := by
  have table : (s.setCue n c.marked).cues = purged (fun k => k == n) (fun _ => true) s.cues := by
    refine purged_eq (fun k => ?_) ?_ rfl
    · rw [purged_slots_getElem]
      by_cases h : k = n
      · subst h
        have cue : s.cues.slots[k.val].cue = some c := hc
        simp [State.setCue, cue]
      · have h' : ¬ n.val = k.val := fun e => h (Fin.ext e.symm)
        simp [State.setCue, h, h']
    · simp [setCue_due, purged]
  rw [← table]
  rfl

/-- R76, R77: cancelling a cue frees its slot, except that a cue IN_PULSE ends later with mode AFTER. -/
theorem cancelSlot_of_cue (m : CancelMode) {n : Fin 48} {c : Cue} {s : State} (hc : s.cueAt n = some c) :
    cancelSlot m n s =
      (m == .after && c.inPulse, s.setCues (purged (fun k => k == n) (fun _ => m == .after && c.inPulse) s.cues)) := by
  unfold cancelSlot
  rw [hc]
  cases m with
  | now =>
    show (false, freeSlot n s) = (false, s.setCues (purged (fun k => k == n) (fun _ => false) s.cues))
    rw [freeSlot_eq_purged]
  | after =>
    cases hw : c.wait with
    | armed due sched overdue => simp [hw, Cue.inPulse, freeSlot_eq_purged]
    | hooked => simp [hw, Cue.inPulse, freeSlot_eq_purged]
    | inPulse trail sched mask ending =>
      have marked := setCue_marked_eq_purged hc
      simp only [Cue.marked, hw] at marked
      simp [hw, Cue.inPulse, marked]

/-- R78: cancelling one slot first and others then. -/
theorem purged_purged {selected ending : Fin 48 → Bool} {n : Fin 48} (other : selected n = false) (t : CueTable) :
    purged selected ending (purged (fun k => k == n) (fun _ => ending n) t) =
      purged (fun k => k == n || selected k) ending t := by
  have slots (k : Fin 48) : (purged selected ending (purged (fun k => k == n) (fun _ => ending n) t)).slots[k] =
      (purged (fun k => k == n || selected k) ending t).slots[k] := by
    rw [purged_slots_getElem, purged_slots_getElem, purged_slots_getElem]
    by_cases h : k = n
    · subst h
      simp [other]
    · simp [h]
  refine purged_eq slots ?_ (by simp only [purged])
  simp only [purged, List.filter_filter]
  refine List.filter_congr fun k _ => ?_
  by_cases h : k = n
  · subst h
    simp [other]
  · have apart : (k == n) = false := by simpa using h
    simp [apart]

/-- R78: cancelling the cues of some slots, one after another, counts and changes each by its own state. -/
theorem purge_eq (m : CancelMode) (ending : Fin 48 → Bool) (l : List (Fin 48)) (a b : Nat) (s : State) (nodup : l.Nodup)
    (cues : ∀ n ∈ l, ∃ c, s.cueAt n = some c ∧ ending n = (m == .after && c.inPulse)) :
    l.foldl (purgeOne m) (a, b, s) =
      (a + l.countP (fun n => !ending n), b + l.countP ending, s.setCues (purged (fun n => decide (n ∈ l)) ending s.cues)) := by
  induction l generalizing a b s with
  | nil =>
    have table : s.cues = purged (fun n => decide (n ∈ ([] : List (Fin 48)))) ending s.cues :=
      purged_eq (fun k => by rw [purged_slots_getElem]; simp) (by simp [purged]) rfl
    rw [← table]
    simp
  | cons n l ih =>
    obtain ⟨fresh, nodup⟩ := List.nodup_cons.1 nodup
    obtain ⟨c, hc, ends⟩ := cues n (.head _)
    have one : purgeOne m (a, b, s) n = (a + (!ending n).toNat, b + (ending n).toNat,
        s.setCues (purged (fun k => k == n) (fun _ => ending n) s.cues)) := by
      simp only [purgeOne, cancelSlot_of_cue m hc, ← ends]
      cases ending n <;> rfl
    rw [List.foldl_cons, one, ih _ _ _ nodup]
    · have members : (fun k => decide (k ∈ n :: l)) = fun k => k == n || decide (k ∈ l) := by
        funext k
        simp [Bool.beq_eq_decide_eq]
      rw [State.setCues_cues, purged_purged (by simpa using fresh), State.setCues_setCues, members, List.countP_cons,
        List.countP_cons]
      cases ending n <;> simp [Nat.add_assoc, Nat.add_comm 1]
    · intro k hk
      obtain ⟨d, hd, ends⟩ := cues k (.tail _ hk)
      refine ⟨d, ?_, ends⟩
      have apart : k ≠ n := fun e => fresh (e ▸ hk)
      rw [State.cueAt, State.setCues_cues, purged_slots_getElem, if_neg (by simpa using apart)]
      exact hd

/-! ## CUE.CANCEL and CUE.PURGE -/

theorem cancelMode_none {b : Byte} (h : 1 < b.toNat) : CancelMode.ofCode b = none := by
  rw [CancelMode.ofCode, if_neg (by bv_omega), if_neg (by bv_omega)]

/-- R76: the two modes. -/
theorem cancelMode_some {b : Byte} (h : ¬ 1 < b.toNat) : ∃ m, CancelMode.ofCode b = some m ∧ (m == .after) = (b == 1) := by
  by_cases zero : b = 0
  · exact ⟨.now, by rw [CancelMode.ofCode, if_pos zero], by rw [zero]; rfl⟩
  · have one : b = 1 := by bv_omega
    exact ⟨.after, by rw [one]; rfl, by rw [one]; rfl⟩

/-- R76: CUE.CANCEL with its three parameter bytes. -/
theorem serve_cancel {f : Frame} {s : State} (served : Served f s) {h l mode : Byte} (params : f.params = [h, l, mode]) :
    serveCommand (plain cmdCueCancel) f s =
      if 1 < mode.toNat then refusedWith f .param s
      else match resolveHandle (h ++ l) s with
        | .invalid => refusedWith f .param s
        | .stale => refusedWith f .stale s
        | .live n c => granted f [byteB (mode == 1 && c.inPulse)]
            ((met f.pins s).setCues (purged (fun k => k == n) (fun _ => mode == 1 && c.inPulse) s.cues)) := by
  split
  next out =>
    refine serveCommand_fail served ?_ (by decide)
    simp only [params, cmdCueCancel, cancelMode_none out]
  next valid =>
    obtain ⟨m, code, after⟩ := cancelMode_some valid
    have same : resolveHandle (h ++ l) (met f.pins s) = resolveHandle (h ++ l) s := rfl
    split
    next named =>
      refine serveCommand_fail served ?_ (by decide)
      simp only [params, cmdCueCancel, code, same, named]
    next named =>
      refine serveCommand_fail served ?_ (by decide)
      simp only [params, cmdCueCancel, code, same, named]
    next n c named =>
      refine serveCommand_done served ?_ (by rw [State.setCues_sys]; exact served_softPending served) rfl
      simp only [params, cmdCueCancel, code, same, named, cancelSlot_of_cue m (resolveHandle_live (same.trans named)), after]
      rfl

/-- R78: which slots a purge selects. -/
def purgeSelects (mask : Half) (all : Byte) (s : State) (n : Fin 48) : Bool :=
  match s.cueAt n with
  | none => false
  | some c => all == 1 || c.mask &&& mask != 0

/-- R78: which of them end later. -/
def purgeEnding (mode : Byte) (s : State) (n : Fin 48) : Bool :=
  match s.cueAt n with
  | none => false
  | some c => mode == 1 && c.inPulse

theorem purgeSlots_eq (mask : Half) (all : Byte) (s : State) :
    purgeSlots mask (all == 1) s = (List.finRange 48).filter (purgeSelects mask all s) := rfl

theorem purge_reply (h l mode all : Byte) (s : State) (params : ¬ (1 < mode.toNat ∨ 1 < all.toNat ∨ (all = 0 ∧ h ++ l = (0 : Half)))) :
    cmdCuePurge [h, l, mode, all] s =
      done
        [byteN ((List.finRange 48).countP fun n => purgeSelects (h ++ l) all s n && !purgeEnding mode s n),
          byteN ((List.finRange 48).countP fun n => purgeSelects (h ++ l) all s n && purgeEnding mode s n)]
        (s.setCues (purged (purgeSelects (h ++ l) all s) (purgeEnding mode s) s.cues)) := by
  simp only [not_or] at params
  obtain ⟨valid, allValid, some⟩ := params
  obtain ⟨m, code, after⟩ := cancelMode_some valid
  have fold := purge_eq m (purgeEnding mode s) (purgeSlots (h ++ l) (all == 1) s) 0 0 s
    ((List.nodup_finRange 48).filter _) fun n hn => by
      rw [purgeSlots_eq, List.mem_filter] at hn
      obtain ⟨-, chosen⟩ := hn
      cases hc : s.cueAt n with
      | none => simp [purgeSelects, hc] at chosen
      | some c => exact ⟨c, rfl, by simp [purgeEnding, hc, after]⟩
  have members : (fun n => decide (n ∈ purgeSlots (h ++ l) (all == 1) s)) = purgeSelects (h ++ l) all s := by
    funext n
    rw [purgeSlots_eq]
    simp
  rw [members] at fold
  simp only [cmdCuePurge, code, if_neg allValid, if_neg some, fold, Nat.zero_add]
  simp only [purgeSlots_eq, List.countP_filter, Bool.and_comm]

/-- R78: CUE.PURGE with its four parameter bytes. -/
theorem serve_purge {f : Frame} {s : State} (served : Served f s) {h l mode all : Byte} (params : f.params = [h, l, mode, all]) :
    serveCommand (plain cmdCuePurge) f s =
      if 1 < mode.toNat ∨ 1 < all.toNat ∨ (all = 0 ∧ h ++ l = (0 : Half)) then refusedWith f .param s
      else granted f
        [byteN ((List.finRange 48).countP fun n => purgeSelects (h ++ l) all s n && !purgeEnding mode s n),
          byteN ((List.finRange 48).countP fun n => purgeSelects (h ++ l) all s n && purgeEnding mode s n)]
        ((met f.pins s).setCues (purged (purgeSelects (h ++ l) all s) (purgeEnding mode s) s.cues)) := by
  split
  next out =>
    refine serveCommand_fail served ?_ (by decide)
    rw [params]
    by_cases mode2 : 1 < mode.toNat
    · simp only [cmdCuePurge, cancelMode_none mode2]
    · obtain ⟨m, code, -⟩ := cancelMode_some mode2
      simp only [cmdCuePurge, code]
      rcases out with mode1 | all1 | none
      · exact absurd mode1 mode2
      · rw [if_pos all1]
      · rw [if_pos none, ite_self]
  next valid =>
    refine serveCommand_done served ?_ (by rw [State.setCues_sys]; exact served_softPending served) rfl
    rw [params]
    exact purge_reply h l mode all (met f.pins s) valid

/-- Settles O24: each command by the length of its parameters. -/
theorem cueCancelAndPurgeFreeSlots : Obligations.CueCancelAndPurgeFreeSlots := by
  unfold Obligations.CueCancelAndPurgeFreeSlots
  intro f s served
  have format {body : List Byte → State → Reply} (refuse : body f.params (met f.pins s) = fail .format (met f.pins s)) :=
    serveCommand_fail served refuse (by decide)
  refine ⟨congrArg Host.Outcome.next ?_, congrArg Host.Outcome.next ?_⟩
  · rcases params : f.params with _ | ⟨h, _ | ⟨l, _ | ⟨mode, _ | ⟨b, rest⟩⟩⟩⟩
    case cons.cons.cons.nil => exact serve_cancel served params
    all_goals exact format (by rw [params]; rfl)
  · rcases params : f.params with _ | ⟨h, _ | ⟨l, _ | ⟨mode, _ | ⟨all, _ | ⟨b, rest⟩⟩⟩⟩⟩
    case cons.cons.cons.cons.nil => exact serve_purge served params
    all_goals exact format (by rw [params]; rfl)

end Sys2Proof.TheCueTable
end

section
/-! PROOFS. Edges and the hook set. -/

open Sys2Proof Sys2Proof.Machine

namespace Sys2Proof.TheCueTable

/-! ## Changes of cues and the due list alone -/

/-- Cues and due list may have changed, and nothing else: no generation, no total, no other block. -/
def CuesOnly (s t : State) : Prop :=
  t = s.setCues { s.cues with slots := t.cues.slots, due := t.cues.due } ∧
    ∀ n : Fin 48, t.cues.slots[n].gen = s.cues.slots[n].gen

theorem CuesOnly.refl (s : State) : CuesOnly s s := ⟨rfl, fun _ => rfl⟩

theorem CuesOnly.trans {s t u : State} (h : CuesOnly s t) (k : CuesOnly t u) : CuesOnly s u := by
  obtain ⟨ht, gens⟩ := h
  obtain ⟨hu, gens'⟩ := k
  refine ⟨?_, fun n => (gens' n).trans (gens n)⟩
  rw [ht] at hu
  exact hu

theorem CuesOnly.time {s t : State} (h : CuesOnly s t) : t.time = s.time := by
  obtain ⟨ht, -⟩ := h
  rw [ht]
  rfl

theorem cuesOnly_setCue (s : State) (n : Fin 48) (c : Cue) : CuesOnly s (s.setCue n c) :=
  ⟨rfl, fun m => State.setCue_gen s n m c⟩

theorem cuesOnly_place (n : Fin 48) (s : State) : CuesOnly s (place n s) :=
  ⟨by rw [place_slots]; exact place_eq n s, fun m => by rw [place_slots]⟩

/-! ## One slot (R102, R103) -/

/-- R102, R103: whether an edge arms or retriggers a cue, and after which delay. -/
def hookDelay (line : Fin 8) (rising : Bool) (c : Cue) : Option Half :=
  match c.trigger with
  | .atTime _ => none
  | .hook l e delay =>
    if l = line ∧ e.matches rising = true ∧ (c.wait = .hooked ∨ (c.wait.code = 0x01 ∧ c.retrigger = true ∧ c.begun = false)) then
      some delay
    else none

/-- R102: a cue that an edge has armed, to act after a delay. -/
def armedAfter (now : Tick) (delay : Half) (c : Cue) : Cue :=
  { c with wait := .armed (now + delay.setWidth 32) (now + delay.setWidth 32) false }

/-- R102: an edge that matches. -/
theorem matches_iff (e : HookEdge) (rising : Bool) :
    e.matches rising = true ↔ e = .either ∨ e = (if rising = true then .rising else .falling) := by
  cases e <;> cases rising <;> decide

/-- R102, R103: what an edge does to the cue of a slot. -/
theorem hookSlot_of_cue (line : Fin 8) (rising : Bool) {s : State} {n : Fin 48} {c : Cue} (hc : s.cueAt n = some c) :
    hookSlot line rising s n =
      match hookDelay line rising c with
      | none => s
      | some delay => place n (s.setCue n (armedAfter s.time.tick delay c)) := by
  simp only [hookSlot, hc, hookDelay]
  cases hook : c.trigger with
  | atTime due => rfl
  | hook l e delay =>
    by_cases met : l = line ∧ e.matches rising = true
    · obtain ⟨rfl, edge⟩ := met
      cases hw : c.wait with
      | hooked => simp [edge, armedAfter, hook]
      | inPulse trail sched mask ending => simp [edge, Wait.code]
      | armed due sched overdue =>
        by_cases again : c.retrigger = true ∧ c.begun = false
        · simp [edge, again, Wait.code, armedAfter, hook]
        · have kept : (c.retrigger && !c.begun) = false := by simpa using again
          simp [edge, again, kept, Wait.code]
    · have missed : (decide (l = line) && e.matches rising) = false := by simpa using met
      have missed' : ¬(l = line ∧ e.matches rising = true ∧
          (c.wait = .hooked ∨ (c.wait.code = 0x01 ∧ c.retrigger = true ∧ c.begun = false))) :=
        fun ⟨same, edge, _⟩ => met ⟨same, edge⟩
      simp only [missed, if_neg missed', Bool.false_eq_true, if_false]

theorem hookSlot_of_free (line : Fin 8) (rising : Bool) {s : State} {n : Fin 48} (hc : s.cueAt n = none) :
    hookSlot line rising s n = s := by
  rw [hookSlot, hc]

theorem hookMet_eq (line : Fin 8) (rising : Bool) (s : State) (n : Fin 48) :
    hookMet line rising s n = hookSlot line rising s n := by
  cases hc : s.cueAt n with
  | none => rw [hookSlot_of_free line rising hc, hookMet, hc]
  | some c =>
    simp only [hookSlot_of_cue line rising hc, hookMet, hc, hookDelay]
    cases hook : c.trigger with
    | atTime due => rfl
    | hook l e delay =>
      simp only [← matches_iff]
      split
      next => simp only [armedAfter, hook]
      next => rfl

/-- R102, R103: the cue that an edge leaves in a slot. -/
def metCue (line : Fin 8) (rising : Bool) (now : Tick) (c : Cue) : Cue :=
  match hookDelay line rising c with
  | none => c
  | some delay => armedAfter now delay c

theorem hookSlot_cueAt (line : Fin 8) (rising : Bool) (s : State) (n m : Fin 48) :
    (hookSlot line rising s n).cueAt m = if m = n then (s.cueAt m).map (metCue line rising s.time.tick) else s.cueAt m := by
  cases hc : s.cueAt n with
  | none =>
    rw [hookSlot_of_free line rising hc]
    split
    next same => rw [same, hc]; rfl
    next => rfl
  | some c =>
    rw [hookSlot_of_cue line rising hc]
    cases hd : hookDelay line rising c with
    | none =>
      dsimp only
      split
      next same => rw [same, hc, Option.map_some, metCue, hd]
      next => rfl
    | some delay =>
      dsimp only
      rw [place_cueAt, setCue_cueAt]
      split
      next same => rw [same, hc, Option.map_some, metCue, hd]
      next => rfl

theorem cuesOnly_hookSlot (line : Fin 8) (rising : Bool) (s : State) (n : Fin 48) : CuesOnly s (hookSlot line rising s n) := by
  cases hc : s.cueAt n with
  | none => rw [hookSlot_of_free line rising hc]; exact .refl s
  | some c =>
    rw [hookSlot_of_cue line rising hc]
    split
    · exact .refl s
    · exact (cuesOnly_setCue s n _).trans (cuesOnly_place n _)

/-! ## All slots -/

theorem cuesOnly_hookSlots (line : Fin 8) (rising : Bool) (l : List (Fin 48)) (s : State) :
    CuesOnly s (l.foldl (hookSlot line rising) s) :=
  List.foldlRecOn l (hookSlot line rising) (.refl s) fun _ ht n _ => ht.trans (cuesOnly_hookSlot line rising _ n)

theorem hookSlots_cueAt (line : Fin 8) (rising : Bool) (l : List (Fin 48)) (nodup : l.Nodup) (s : State) (m : Fin 48) :
    (l.foldl (hookSlot line rising) s).cueAt m =
      if m ∈ l then (s.cueAt m).map (metCue line rising s.time.tick) else s.cueAt m := by
  induction l generalizing s with
  | nil => simp
  | cons n l ih =>
    obtain ⟨fresh, nodup⟩ := List.nodup_cons.1 nodup
    rw [List.foldl_cons, ih nodup, (cuesOnly_hookSlot line rising s n).time, hookSlot_cueAt]
    by_cases same : m = n
    · subst same
      simp [fresh]
    · simp [same]

theorem hookEdge_cueAt (line : Fin 8) (rising : Bool) (s : State) (m : Fin 48) :
    (hookEdge line rising s).cueAt m = (s.cueAt m).map (metCue line rising s.time.tick) := by
  rw [hookEdge, hookSlots_cueAt line rising _ (List.nodup_finRange 48), if_pos (List.mem_finRange m)]

theorem cuesOnly_hookEdge (line : Fin 8) (rising : Bool) (s : State) : CuesOnly s (hookEdge line rising s) := by
  rw [hookEdge]
  exact cuesOnly_hookSlots ..

/-- Settles O43: slot by slot in ascending order, each slot met once. -/
theorem edgesArmMatchingCues : Obligations.EdgesArmMatchingCues := by
  unfold Obligations.EdgesArmMatchingCues
  intro line rising s
  obtain ⟨table, gens⟩ := cuesOnly_hookEdge line rising s
  refine ⟨fun n => ?_, table, gens, ?_⟩
  · rw [hookEdge_cueAt]
    cases s.cueAt n with
    | none => rfl
    | some c =>
      simp only [Option.map_some, metCue, hookDelay, ← matches_iff]
      cases hook : c.trigger with
      | atTime due => rfl
      | hook l e delay =>
        cases hw : c.wait with
        | hooked =>
          simp only [true_or, and_true]
          by_cases met : l = line ∧ e.matches rising = true
          · simp only [if_pos met, armedAfter, hook]
          · simp only [if_neg met]
        | armed due sched overdue =>
          simp only [Wait.code, reduceCtorEq, false_or, true_and]
          by_cases met : l = line ∧ e.matches rising = true ∧ c.retrigger = true ∧ c.begun = false
          · simp only [if_pos met, armedAfter, hook]
          · simp only [if_neg met]
        | inPulse trail sched mask ending => simp [Wait.code]
  · have same : hookMet line rising = hookSlot line rising := funext₂ (hookMet_eq line rising)
    rw [hookEdge, same]

end Sys2Proof.TheCueTable
end

section
/-! PROOFS. Occurrences, trailing edges and the order of the due list. -/

open Sys2Proof Sys2Proof.Machine Sys2Proof.TimebaseAndTicks

namespace Sys2Proof.TheCueTable

/-! ## The operations of chapter 4 by their equations (R58, R87 to R89) -/

theorem slotFreed_eq (n : Fin 48) (s : State) : slotFreed n s = freeSlot n s := by
  have slots : (slotFreed n s).cues.slots = (freeSlot n s).cues.slots := by
    refine Vector.ext fun i hi => ?_
    by_cases h : n.val = i
    · subst h
      simp [slotFreed, freeSlot, unlist]
    · have h' : ¬(⟨i, hi⟩ : Fin 48) = n := fun e => h (congrArg Fin.val e).symm
      simp [slotFreed, freeSlot, unlist, h, h']
  change s.setCues { s.cues with slots := (slotFreed n s).cues.slots, due := _ } = _
  rw [slots]
  rfl

/-- R89: the detail of SERIES_END, for each of the three causes: whether the cue goes back, and the cause. -/
theorem seriesDetail (back : Bool) {cause : Nat} (h : cause < 3) :
    halfN (256 * back.toNat + cause) = byteB back ++ byteN cause := by
  interval_cases cause <;> cases back <;> rfl

theorem endSeries_of_cue {n : Fin 48} {c : Cue} {s : State} (hc : s.cueAt n = some c) {cause : Nat} (h : cause < 3) :
    endSeries n cause s = seriesEnded n c (byteN cause) s := by
  simp only [endSeries, hc, seriesEnded, seriesDetail _ h, slotFreed_eq]
  rfl

theorem reschedule_of_cue {n : Fin 48} {c : Cue} {s : State} (hc : s.cueAt n = some c) {sched : Tick}
    (hs : c.sched = some sched) :
    reschedule n s = place n (s.setCue n { c with wait := .armed (sched + c.period) (sched + c.period) false }) := by
  simp only [reschedule, hc, hs]

/-- R87, R88: the completion of an occurrence of a scheduled cue. -/
theorem completeOccurrence_of_cue {n : Fin 48} {c : Cue} {s : State} (hc : s.cueAt n = some c) {sched : Tick}
    (hs : c.sched = some sched) : completeOccurrence n s = occurrenceDone n c sched s := by
  have again (d : Cue) (hd : d.sched = some sched) :
      reschedule n (s.setCue n d) =
        place n (s.setCue n { d with wait := .armed (sched + d.period) (sched + d.period) false }) := by
    rw [reschedule_of_cue (State.setCue_cueAt_same s n d) hd, State.setCue_setCue]
  simp only [completeOccurrence, hc, occurrenceDone, Cue.limited, bne_iff_ne]
  by_cases unlimited : c.occurrences = 0
  · rw [if_neg (not_not_intro unlimited), if_pos unlimited, if_neg fun ⟨limited, _⟩ => limited unlimited]
    exact again { c with begun := true } hs
  · rw [if_pos unlimited, if_neg unlimited]
    simp only [unlimited, ne_eq, not_false_eq_true, true_and]
    split
    · exact endSeries_of_cue (State.setCue_cueAt_same s n _) (by decide)
    · exact again { c with begun := true, remaining := c.remaining - 1 } hs

/-! ## Trailing edges (R86) -/

theorem standinOwned_eq (s : State) : standinOwned s = standinMask s := by
  apply BitVec.eq_of_getLsbD_eq
  intro i hi
  have bit := OutputChannels.standinMask_getLsbD s ⟨i, hi⟩
  simp only at bit
  rw [bit, standinOwned, BitVec.getLsbD_ofFnLE, dif_pos hi, Bool.and_comm]

theorem maskedCounted_eq (m : Half) (s : State) : maskedCounted m s = countMasked m s := rfl

theorem trailingKind_eq (a : Action) : a.trailing.getD .low = if a = .pulseLow then .high else .low := by
  cases a <;> rfl

theorem trailingEdge_of_pulse {n : Fin 48} {c : Cue} {s : State} (hc : s.cueAt n = some c) {trail sched : Tick} {mask : Half}
    {ending : Bool} (hw : c.wait = .inPulse trail sched mask ending) :
    trailingEdge n s = trailed n c trail sched mask ending s := by
  simp only [trailingEdge, hc, hw, trailed, standinOwned_eq, maskedCounted_eq, writeMask_eq, trailingKind_eq, slotFreed_eq]
  split
  · rfl
  · exact completeOccurrence_of_cue (State.setCue_cueAt_same _ n _) rfl

/-- R86: the cue of a slot that is IN_PULSE has a trailing edge, no other has. -/
theorem trailingEdge_eq (n : Fin 48) (s : State) : trailingEdge n s = trailedOne s n := by
  cases hc : s.cueAt n with
  | none => simp only [trailingEdge, trailedOne, hc]
  | some c =>
    cases hw : c.wait with
    | armed due sched overdue => simp only [trailingEdge, trailedOne, hc, hw]
    | inPulse trail sched mask ending => simp only [trailingEdge_of_pulse hc hw, trailedOne, hc, hw]
    | hooked => simp only [trailingEdge, trailedOne, hc, hw]

/-- A step of a tick as a row: ticks are processed and it is due. -/
theorem inTick_eq (due : Bool) (effect : State → State) (s : State) :
    inTick due effect s = if Ticking s ∧ due = true then settle (effect s) else s := by
  unfold inTick occur
  refine ite_congr ?_ (fun _ => rfl) fun _ => rfl
  simp [Ticking, and_assoc]

/-- A step of a tick that is not due. -/
theorem inTick_notDue (effect : State → State) (s : State) : inTick false effect s = s := by
  rw [inTick_eq, if_neg (by simp)]

theorem trailingEdge_row (n : Fin 48) (s : State) :
    inTick (trailingDue s n) (trailingEdge n) s =
      match s.cueAt n with
      | none => s
      | some c =>
        match c.wait with
        | .armed _ _ _ => s
        | .hooked => s
        | .inPulse trail sched mask ending =>
          if Ticking s ∧ trail = s.time.tick then settle (trailed n c trail sched mask ending s) else s := by
  cases hc : s.cueAt n with
  | none => simp only [trailingDue, hc, Option.map_none, inTick_notDue]
  | some c =>
    cases hw : c.wait with
    | armed due sched overdue => simp only [trailingDue, hc, Option.map_some, hw, inTick_notDue]
    | hooked => simp only [trailingDue, hc, Option.map_some, hw, inTick_notDue]
    | inPulse trail sched mask ending =>
      simp only [trailingDue, hc, Option.map_some, hw, inTick_eq, beq_iff_eq, trailingEdge_of_pulse hc hw]

/-! ## The order of the due list (R69, R70) -/

/-- R69, R70: by its entry, one cue may stand ahead of another. -/
def EntryBefore (now : Tick) (a b : Bool × Tick × Fin 4) : Prop :=
  a.1 = true ∨ (b.1 = false ∧
    ((a.2.1 - now).toNat < (b.2.1 - now).toNat ∨ (a.2.1 = b.2.1 ∧ a.2.2 ≤ b.2.2)))

theorem EntryBefore.trans {now : Tick} {a b c : Bool × Tick × Fin 4} (h : EntryBefore now a b) (k : EntryBefore now b c) :
    EntryBefore now a c := by
  rcases h with late | ⟨early, h⟩
  · exact .inl late
  · rcases k with late | ⟨early', k⟩
    · exact absurd (late.symm.trans early) (by decide)
    · refine .inr ⟨early', ?_⟩
      rcases h with near | ⟨key, prio⟩ <;> rcases k with near' | ⟨key', prio'⟩
      · exact .inl (near.trans near')
      · exact .inl (key' ▸ near)
      · exact .inl (key ▸ near')
      · exact .inr ⟨key.trans key', prio.trans prio'⟩

/-- R69, R70: of two entries, the second not overdue, one may stand ahead of the other. -/
theorem EntryBefore.of_not {now : Tick} {a b : Bool × Tick × Fin 4} (early : b.1 = false) (h : ¬ EntryBefore now a b) :
    EntryBefore now b a := by
  simp only [EntryBefore, early, true_and, not_or, not_and, not_lt, not_le] at h
  obtain ⟨notLate, near, prio⟩ := h
  refine .inr ⟨by simpa using notLate, ?_⟩
  rcases near.lt_or_eq with near | same
  · exact .inl near
  · have key : b.2.1 = a.2.1 := by
      have : b.2.1 - now = a.2.1 - now := BitVec.eq_of_toNat_eq same
      bv_omega
    exact .inr ⟨key, (prio key.symm).le⟩

theorem standsBefore_iff (s : State) (m n : Fin 48) :
    StandsBefore s m n ↔ ∃ a b, entryOf s m = some a ∧ entryOf s n = some b ∧ EntryBefore s.time.tick a b := by
  unfold StandsBefore
  cases hm : entryOf s m with
  | none => simp
  | some a =>
    cases hn : entryOf s n with
    | none => simp
    | some b => simp [EntryBefore]

theorem standsBefore_trans {s : State} {m n k : Fin 48} (h : StandsBefore s m n) (h' : StandsBefore s n k) :
    StandsBefore s m k := by
  obtain ⟨a, b, ha, hb, ab⟩ := (standsBefore_iff ..).1 h
  obtain ⟨b', c, hb', hc, bc⟩ := (standsBefore_iff ..).1 h'
  obtain rfl : b = b' := Option.some.inj (hb.symm.trans hb')
  exact (standsBefore_iff ..).2 ⟨a, c, ha, hc, ab.trans bc⟩

/-- R68: the entry of a cue in the due list. -/
theorem entryOf_of_key {s : State} {n : Fin 48} {c : Cue} {K : Tick} (hc : s.cueAt n = some c) (hK : c.key = some K) :
    entryOf s n = some (c.overdue, K, c.priority) := by
  unfold Cue.key at hK
  cases hw : c.wait with
  | armed due sched overdue =>
    rw [hw] at hK
    cases hK
    simp only [entryOf, hc, hw, Cue.overdue]
  | inPulse trail sched mask ending =>
    rw [hw] at hK
    cases hK
    simp only [entryOf, hc, hw, Cue.overdue]
  | hooked => rw [hw] at hK; cases hK

/-! ## Placement (R69 to R71) -/

/-- R69: a listed cue stands ahead of a placement as its entry says. -/
theorem standsAhead_iff {s : State} {n m : Fin 48} {c : Cue} {K : Tick} (hc : s.cueAt n = some c) (hK : c.key = some K)
    (early : c.overdue = false) (hm : Listed s m) : standsAhead s K c.priority m = true ↔ StandsBefore s m n := by
  obtain ⟨d, hd, key⟩ := hm
  obtain ⟨k, hk⟩ := Option.isSome_iff_exists.1 key
  simp only [standsAhead, hd, hk, StandsBefore, entryOf_of_key hd hk, entryOf_of_key hc hK, early, Bool.or_eq_true,
    Bool.and_eq_true, decide_eq_true_eq, beq_iff_eq, true_and, or_assoc]
  rfl

theorem place_of_key {s : State} {n : Fin 48} {c : Cue} {K : Tick} (hc : s.cueAt n = some c) (hK : c.key = some K) :
    place n s = s.setCues { s.cues with
      due := (s.cues.due.filter fun m => m != n).takeWhile (standsAhead s K c.priority) ++
        n :: (s.cues.due.filter fun m => m != n).dropWhile (standsAhead s K c.priority) } := by
  simp only [place, hc, hK]
  rfl

/-- In an ordered list, where the first entry behind a place stands not before it, none behind does. -/
theorem not_of_mem_dropWhile {α : Type} {r : α → α → Prop} {p : α → Bool} {l : List α}
    (closed : ∀ a ∈ l, ∀ b ∈ l, r a b → p b = true → p a = true) (h : l.Pairwise r) : ∀ a ∈ l.dropWhile p, ¬ p a = true := by
  induction l with
  | nil => simp
  | cons b l ih =>
    obtain ⟨first, rest⟩ := List.pairwise_cons.1 h
    by_cases hb : p b = true
    · rw [List.dropWhile_cons_of_pos hb]
      exact ih (fun a ha b hb => closed a (.tail _ ha) b (.tail _ hb)) rest
    · rw [List.dropWhile_cons_of_neg hb]
      intro a ha pa
      rcases List.mem_cons.1 ha with rfl | ha
      · exact hb pa
      · exact hb (closed b (.head _) a (.tail _ ha) (first a ha) pa)

theorem placement {n : Fin 48} {c : Cue} {s : State} (hc : s.cueAt n = some c) (hk : c.key.isSome = true)
    (early : c.overdue = false) {others : List (Fin 48)} (hothers : others = s.cues.due.filter fun m => m != n)
    (listed : ∀ m ∈ others, Listed s m) (ordered : others.Pairwise (StandsBefore s)) :
    ∃ front back : List (Fin 48), front ++ back = others ∧
      place n s = s.setCues { s.cues with due := front ++ n :: back } ∧
      (∀ m ∈ front, StandsBefore s m n) ∧ (∀ m ∈ back, ¬StandsBefore s m n) ∧
      (front ++ n :: back).Pairwise (StandsBefore s) := by
  obtain ⟨K, hK⟩ := Option.isSome_iff_exists.1 hk
  have ahead (m : Fin 48) (hm : m ∈ others) := standsAhead_iff hc hK early (listed m hm)
  generalize hp : standsAhead s K c.priority = p at ahead
  have split : others.takeWhile p ++ others.dropWhile p = others := List.takeWhile_append_dropWhile
  have inFront {m : Fin 48} (hm : m ∈ others.takeWhile p) : m ∈ others := (List.takeWhile_prefix p).subset hm
  have inBack {m : Fin 48} (hm : m ∈ others.dropWhile p) : m ∈ others := (List.dropWhile_suffix p).subset hm
  have front (m : Fin 48) (hm : m ∈ others.takeWhile p) : StandsBefore s m n :=
    (ahead m (inFront hm)).1 (List.mem_takeWhile_imp hm)
  have back (m : Fin 48) (hm : m ∈ others.dropWhile p) : ¬StandsBefore s m n := by
    rw [← ahead m (inBack hm)]
    refine not_of_mem_dropWhile (fun a ha b hb ab pb => ?_) ordered m hm
    exact (ahead a ha).2 (standsBefore_trans ab ((ahead b hb).1 pb))
  refine ⟨others.takeWhile p, others.dropWhile p, split, ?_, front, back, ?_⟩
  · rw [place_of_key hc hK, hp, ← hothers]
  · have parts := ordered
    rw [← split, List.pairwise_append] at parts
    obtain ⟨first, last, across⟩ := parts
    refine List.pairwise_append.2 ⟨first, List.pairwise_cons.2 ⟨fun m hm => ?_, last⟩, fun m hm k hk => ?_⟩
    · obtain ⟨d, hd, key⟩ := listed m (inBack hm)
      obtain ⟨k, hk⟩ := Option.isSome_iff_exists.1 key
      have away : ¬EntryBefore s.time.tick (d.overdue, k, d.priority) (c.overdue, K, c.priority) := fun e =>
        back m hm ((standsBefore_iff ..).2 ⟨_, _, entryOf_of_key hd hk, entryOf_of_key hc hK, e⟩)
      exact (standsBefore_iff ..).2 ⟨_, _, entryOf_of_key hc hK, entryOf_of_key hd hk, .of_not early away⟩
    · rcases List.mem_cons.1 hk with rfl | hk
      · exact front m hm
      · exact across m hm k hk

/-- Settles O44: the row by its equation, and the placement by the order of the entries. -/
theorem trailingEdgesCompletePulses : Obligations.TrailingEdgesCompletePulses := by
  unfold Obligations.TrailingEdgesCompletePulses
  refine ⟨fun n s => congrArg Host.Outcome.next (trailingEdge_row n s), fun n c s hc hk early => ?_⟩
  exact fun listed ordered => placement hc hk early rfl listed ordered

end Sys2Proof.TheCueTable
end

section
/-! PROOFS. Leading actions. -/

open Sys2Proof Sys2Proof.Machine Sys2Proof.TimebaseAndTicks

namespace Sys2Proof.TheCueTable

/-! ## The write of a leading action (R44, R48, R99) -/

/-- R48: leaving out the writing cue makes no difference when it holds none of the channels. -/
theorem cutBy_writer {m : Half} {n : Fin 48} {s : State} (h : ∀ c, s.cueAt n = some c → c.pending &&& m = 0) :
    cutBy m (some n) s = cutEverywhere m s := by
  rw [← OutputChannels.cutBy_none, cutBy, cutBy]
  generalize List.finRange 48 = l
  induction l generalizing s with
  | nil => rfl
  | cons k l ih =>
    rw [List.foldl_cons, List.foldl_cons]
    by_cases same : k = n
    · subst same
      rw [cutSlot, if_pos rfl, OutputChannels.cutSlot_of_disjoint h]
      exact ih h
    · have slot : cutSlot m (some n) s k = cutSlot m none s k := by
        simp [cutSlot, Ne.symm same]
      rw [slot]
      refine ih fun c hc => h c ?_
      rwa [OutputChannels.cutSlot_eq_cutOver, OutputChannels.cutOver_cueAt, if_neg (by simpa using Ne.symm same)] at hc

/-- R44, R48: the write of the leading action of an ARMED cue. -/
theorem driveAndCut_armed {n : Fin 48} {c : Cue} {s : State} (hc : s.cueAt n = some c) {due sched : Tick} {overdue : Bool}
    (hw : c.wait = .armed due sched overdue) (m : Half) (k : LevelKind) :
    driveAndCut m k (some n) s = cutEverywhere m (s.setChans (written m k s.chans)) := by
  rw [driveAndCut, writeMask_eq]
  refine cutBy_writer fun d hd => ?_
  rw [OutputChannels.setChans_cueAt, hc] at hd
  cases hd
  simp [Cue.pending, hw]

/-! ## Guards, firings and skips (R91 to R96) -/

theorem guardPasses_eq (g : Option Guard) (s : State) : guardPasses g s = GuardPasses g s := by
  cases g with
  | none => rfl
  | some g =>
    simp only [guardPasses, GuardPasses]
    cases s.edges.lines[g.line].filtered <;> cases g.high <;> rfl

theorem firingCounted_eq (n : Fin 48) (c : Cue) (notify : Bool) (s : State) :
    firingCounted n c notify s = countFired n c notify s := rfl

theorem countFired_cueAt (n m : Fin 48) (c : Cue) (notify : Bool) (s : State) :
    (countFired n c notify s).cueAt m = s.cueAt m := by
  unfold countFired
  split <;> rfl

/-- R94: a firing that completes its occurrence. -/
theorem completeOccurrence_fired {n : Fin 48} {c d : Cue} {s : State} {sched : Tick} (hs : d.sched = some sched) (notify : Bool) :
    completeOccurrence n (countFired n c notify (s.setCue n d)) =
      occurrenceDone n d sched (firingCounted n c notify (s.setCue n d)) :=
  completeOccurrence_of_cue ((countFired_cueAt ..).trans (State.setCue_cueAt_same s n d)) hs

/-- R92: the occurrence of a scheduled cue skipped. -/
theorem skipOccurrence_of_cue {n : Fin 48} {c : Cue} {s : State} (hc : s.cueAt n = some c) {sched : Tick}
    (hs : c.sched = some sched) :
    skipOccurrence n c s = occurrenceDone n c sched
      (if c.notifyFire = true then
        raise .skipped (handleOf s n) c.tag (if c.occurrences = 0 then 0 else c.remaining - 1)
          (s.setCues { s.cues with skipped := s.cues.skipped + 1 })
      else s.setCues { s.cues with skipped := s.cues.skipped + 1 }) := by
  have left : (if c.limited then c.remaining - 1 else 0 : Half) = if c.occurrences = 0 then 0 else c.remaining - 1 := by
    by_cases unlimited : c.occurrences = 0 <;> simp [Cue.limited, unlimited]
  rw [skipOccurrence, left]
  refine completeOccurrence_of_cue ?_ hs
  split
  · exact hc
  · exact hc

/-! ## The leading action (R90 to R98) -/

/-- R97: the channels that the leading action of a cue drives. -/
def drivenBy (c : Cue) (s : State) : Half := c.mask &&& ~~~standinOwned s

/-- R44, R48, R97: the state after the write of a leading action, with its cuts and its masked channels. -/
def drivenState (c : Cue) (k : LevelKind) (s : State) : State :=
  maskedCounted (c.mask &&& standinOwned s)
    (cutEverywhere (drivenBy c s) (s.setChans (written (drivenBy c s) k s.chans)))

theorem drivenState_eq {n : Fin 48} {c : Cue} {s : State} (hc : s.cueAt n = some c) {due sched : Tick} {overdue : Bool}
    (hw : c.wait = .armed due sched overdue) (k : LevelKind) :
    drivenState c k s = countMasked (c.mask &&& standinMask s) (driveAndCut (c.mask &&& ~~~standinMask s) k (some n) s) := by
  rw [drivenState, drivenBy, standinOwned_eq, driveAndCut_armed hc hw, maskedCounted_eq]

theorem drivenState_chans (c : Cue) (k : LevelKind) (s : State) :
    (drivenState c k s).chans = written (drivenBy c s) k s.chans := rfl

theorem drivenState_time (c : Cue) (k : LevelKind) (s : State) : (drivenState c k s).time = s.time := by
  simp [drivenState, maskedCounted, cutEverywhere]

section
variable {n : Fin 48} {c : Cue} {sched : Tick} {s : State} {k : LevelKind}

theorem led_notify (passes : GuardPasses c.guard s = true) (leading : c.action.leading = none) :
    led n c sched s = occurrenceDone n { c with fired := c.fired + 1 } sched
      (firingCounted n c true (s.setCue n { c with fired := c.fired + 1 })) := by
  simp only [led, passes, Bool.true_eq_false, if_false]
  cases ha : c.action with
  | notify => rfl
  | _ => rw [ha] at leading; cases leading

theorem led_level (passes : GuardPasses c.guard s = true) (leading : c.action.leading = some k)
    (plain : c.action.pulse = false) :
    led n c sched s = occurrenceDone n { c with fired := c.fired + 1 } sched
      (firingCounted n c c.notifyFire ((drivenState c k s).setCue n { c with fired := c.fired + 1 })) := by
  simp only [led, passes, Bool.true_eq_false, if_false]
  cases ha : c.action with
  | notify => rw [ha] at leading; cases leading
  | pulseHigh => rw [ha] at plain; cases plain
  | pulseLow => rw [ha] at plain; cases plain
  | _ =>
    rw [ha] at leading
    cases leading
    rfl

theorem led_pulse (passes : GuardPasses c.guard s = true) (leading : c.action.leading = some k)
    (pulse : c.action.pulse = true) :
    led n c sched s = firingCounted n c c.notifyFire (place n ((drivenState c k s).setCue n
      { c with
        wait := .inPulse (s.time.tick + c.width.setWidth 32) sched (drivenBy c s) false
        fired := c.fired + 1 })) := by
  simp only [led, passes, Bool.true_eq_false, if_false]
  cases ha : c.action with
  | pulseHigh => rw [ha] at leading; cases leading; rfl
  | pulseLow => rw [ha] at leading; cases leading; rfl
  | _ => rw [ha] at pulse; cases pulse

end

/-- R98: the channels led so far with those that the leading action of a cue drives. -/
def ledWith (c : Cue) (s : State) (l : Led) : Led :=
  if GuardPasses c.guard s = false then l
  else match c.action.leading with
    | none => l
    | some k => l.add (drivenBy c s) (written (drivenBy c s) k s.chans)

theorem fireAction_of_armed {n : Fin 48} {c : Cue} {s : State} (hc : s.cueAt n = some c) {due sched : Tick} {overdue : Bool}
    (hw : c.wait = .armed due sched overdue) (passes : GuardPasses c.guard s = true) (l : Led) :
    fireAction n c s l = (led n c sched s, ledWith c s l) := by
  have hs : c.sched = some sched := by rw [Cue.sched, hw]
  have fired (t : State) (notify : Bool) := completeOccurrence_fired (n := n) (c := c) (s := t)
    (d := { c with fired := c.fired + 1 }) (sched := sched) hs notify
  rw [ledWith, if_neg (by simp [passes])]
  cases leading : c.action.leading with
  | none => simp only [fireAction, leading, led_notify passes leading, fired]
  | some k =>
    simp only [fireAction, leading, ← drivenState_eq hc hw, drivenState_chans, drivenState_time]
    rw [← standinOwned_eq]
    cases pulse : c.action.pulse with
    | true =>
      simp only [if_true, led_pulse passes leading pulse, hs, firingCounted_eq, drivenBy, Option.getD_some]
    | false =>
      simp only [Bool.false_eq_true, if_false, led_level passes leading pulse, fired, drivenBy]

/-- R90 to R97: the leading action of an ARMED cue. -/
theorem leadingAction_of_armed {n : Fin 48} {c : Cue} {s : State} (hc : s.cueAt n = some c) {due sched : Tick} {overdue : Bool}
    (hw : c.wait = .armed due sched overdue) (l : Led) : leadingAction n (s, l) = (led n c sched s, ledWith c s l) := by
  have hs : c.sched = some sched := by rw [Cue.sched, hw]
  simp only [leadingAction, hc, guardPasses_eq]
  cases passes : GuardPasses c.guard s with
  | true => rw [if_pos rfl, fireAction_of_armed hc hw passes]
  | false =>
    rw [if_neg Bool.false_ne_true, ledWith, if_pos passes, led, if_pos passes]
    by_cases abandon : c.guard.map Guard.policy = some .abandon
    · rw [if_pos abandon, abandon, endSeries_of_cue hc (by decide)]
      rfl
    · rw [if_neg abandon, skipOccurrence_of_cue hc hs]
      split
      next h => exact absurd h abandon
      next => rfl

theorem leadingAction_row (n : Fin 48) (s : State) :
    inTick (leadingDue s n) (fun s => (leadingAction n (s, Led.start)).1) s =
      match s.cueAt n with
      | none => s
      | some c =>
        match c.wait with
        | .armed due sched overdue =>
          if Ticking s ∧ due = s.time.tick ∧ overdue = false ∧ s.cues.frozen = false then settle (led n c sched s) else s
        | .inPulse _ _ _ _ => s
        | .hooked => s := by
  cases hc : s.cueAt n with
  | none => simp only [leadingDue, hc, Option.map_none, inTick_notDue]
  | some c =>
    cases hw : c.wait with
    | inPulse trail sched mask ending => simp only [leadingDue, hc, Option.map_some, hw, inTick_notDue]
    | hooked => simp only [leadingDue, hc, Option.map_some, hw, inTick_notDue]
    | armed due sched overdue =>
      simp only [leadingDue, hc, Option.map_some, hw, inTick_eq, Bool.and_eq_true, beq_iff_eq, Bool.not_eq_true', and_assoc,
        leadingAction_of_armed hc hw]

/-- R68, R85: a cue of a slot that becomes overdue, or nothing. -/
theorem markOverdue_eq (n : Fin 48) (s : State) : markOverdue n s = passedOne s n := by
  cases hc : s.cueAt n with
  | none => simp only [markOverdue, passedOne, hc]
  | some c => cases hw : c.wait <;> simp only [markOverdue, passedOne, hc, hw]

theorem markOverdue_row (n : Fin 48) (s : State) :
    inTick (overdueDue s n) (markOverdue n) s =
      match s.cueAt n with
      | none => s
      | some c =>
        match c.wait with
        | .armed due sched overdue =>
          if Ticking s ∧ due = s.time.tick ∧ overdue = false ∧ s.cues.frozen = true then
            settle (s.setCue n { c with wait := .armed due sched true })
          else s
        | .inPulse _ _ _ _ => s
        | .hooked => s := by
  cases hc : s.cueAt n with
  | none => simp only [overdueDue, hc, Option.map_none, inTick_notDue]
  | some c =>
    cases hw : c.wait with
    | inPulse trail sched mask ending => simp only [overdueDue, hc, Option.map_some, hw, inTick_notDue]
    | hooked => simp only [overdueDue, hc, Option.map_some, hw, inTick_notDue]
    | armed due sched overdue =>
      simp only [overdueDue, markOverdue, hc, Option.map_some, hw, inTick_eq, Bool.and_eq_true, beq_iff_eq, Bool.not_eq_true',
        and_assoc]

/-- Settles O45: both rows by their equations. -/
theorem dueCuesFireOrBecomeOverdue : Obligations.DueCuesFireOrBecomeOverdue := by
  unfold Obligations.DueCuesFireOrBecomeOverdue
  exact fun n s => ⟨congrArg Host.Outcome.next (leadingAction_row n s), congrArg Host.Outcome.next (markOverdue_row n s)⟩

end Sys2Proof.TheCueTable
end

section
/-! PROOFS. The cue stage and its conflicts. -/

open Sys2Proof Sys2Proof.Machine Sys2Proof.TimebaseAndTicks

namespace Sys2Proof.TheCueTable

/-! ## Cues that stay ARMED (R85, R90) -/

/-- The slot holds an ARMED cue. -/
def ArmedAt (s : State) (n : Fin 48) : Prop :=
  ∃ c due sched overdue, s.cueAt n = some c ∧ c.wait = .armed due sched overdue

/-- An ARMED cue stays as it is when its slot does. -/
theorem ArmedAt.of_cueAt {s t : State} {n : Fin 48} (h : ArmedAt s n) (same : t.cueAt n = s.cueAt n) : ArmedAt t n := by
  obtain ⟨c, due, sched, overdue, hc, hw⟩ := h
  exact ⟨c, due, sched, overdue, same.trans hc, hw⟩

section
variable {n m : Fin 48} (other : m ≠ n)
include other

theorem seriesEnded_cueAt_other (c : Cue) (cause : Byte) (s : State) : (seriesEnded n c cause s).cueAt m = s.cueAt m := by
  have told (x : Half) : (if c.notifyEnd = true then raise .seriesEnd (handleOf s n) c.tag x s else s).cueAt m = s.cueAt m := by
    split <;> rfl
  simp only [seriesEnded]
  split
  · rw [State.setCue_cueAt_other _ _ _ _ other.symm]
    exact told _
  · rw [slotFreed_eq, freeSlot_cueAt, if_neg other]
    exact told _

theorem occurrenceDone_cueAt_other (c : Cue) (sched : Tick) (s : State) :
    (occurrenceDone n c sched s).cueAt m = s.cueAt m := by
  simp only [occurrenceDone]
  generalize (if c.occurrences = 0 then c.remaining else c.remaining - 1) = left
  split
  · rw [seriesEnded_cueAt_other other, State.setCue_cueAt_other _ _ _ _ other.symm]
  · rw [place_cueAt, State.setCue_cueAt_other _ _ _ _ other.symm]

theorem trailed_cueAt_other (c : Cue) (trail sched : Tick) (mask : Half) (ending : Bool) (s : State) :
    (trailed n c trail sched mask ending s).cueAt m = s.cueAt m := by
  simp only [trailed]
  split
  · rw [slotFreed_eq, freeSlot_cueAt, if_neg other, State.setCue_cueAt_other _ _ _ _ other.symm, maskedCounted_eq,
      OutputChannels.countMasked_cueAt, OutputChannels.setChans_cueAt]
  · rw [occurrenceDone_cueAt_other other, State.setCue_cueAt_other _ _ _ _ other.symm, maskedCounted_eq,
      OutputChannels.countMasked_cueAt, OutputChannels.setChans_cueAt]

end

theorem cutEverywhere_cueAt (m : Half) (s : State) (n : Fin 48) :
    (cutEverywhere m s).cueAt n = (s.cueAt n).map (Cue.without m) := by
  rw [← OutputChannels.cutBy_none, OutputChannels.cutBy_cueAt, if_neg (by simp)]

theorem drivenState_cueAt (c : Cue) (k : LevelKind) (s : State) (n : Fin 48) :
    (drivenState c k s).cueAt n = (s.cueAt n).map (Cue.without (drivenBy c s)) := by
  rw [drivenState, maskedCounted_eq, OutputChannels.countMasked_cueAt, cutEverywhere_cueAt, OutputChannels.setChans_cueAt]

/-- R48: a write leaves an ARMED cue as it is. -/
theorem ArmedAt.drivenState {s : State} {n : Fin 48} (h : ArmedAt s n) (c : Cue) (k : LevelKind) :
    ArmedAt (drivenState c k s) n := by
  obtain ⟨d, due, sched, overdue, hd, hw⟩ := h
  exact ⟨d, due, sched, overdue, by rw [drivenState_cueAt, hd, Option.map_some, Cue.without, hw], hw⟩

theorem ArmedAt.passedOne {s : State} {n : Fin 48} (h : ArmedAt s n) (m : Fin 48) : ArmedAt (passedOne s m) n := by
  unfold Machine.passedOne
  split
  next => exact h
  next c hc =>
    split
    next due sched overdue hw =>
      by_cases same : n = m
      · exact ⟨_, _, _, _, by rw [same]; exact State.setCue_cueAt_same .., rfl⟩
      · exact h.of_cueAt (State.setCue_cueAt_other _ _ _ _ (Ne.symm same))
    next => exact h
    next => exact h

theorem ArmedAt.trailedOne {s : State} {n : Fin 48} (h : ArmedAt s n) (m : Fin 48) : ArmedAt (trailedOne s m) n := by
  unfold Machine.trailedOne
  split
  next => exact h
  next c hc =>
    split
    next => exact h
    next trail sched mask ending hw =>
      refine h.of_cueAt (trailed_cueAt_other (fun same => ?_) ..)
      obtain ⟨d, due, sched', overdue, hd, hw'⟩ := h
      rw [same, hc] at hd
      cases hd
      cases hw.symm.trans hw'
    next => exact h

theorem ArmedAt.led {s : State} {n m : Fin 48} (h : ArmedAt s n) (other : n ≠ m) (c : Cue) (sched : Tick) :
    ArmedAt (led m c sched s) n := by
  have counted (notify : Bool) (t : State) : (firingCounted m c notify t).cueAt n = t.cueAt n := by
    rw [firingCounted_eq, countFired_cueAt]
  have put (t : State) (d : Cue) := State.setCue_cueAt_other t m n d other.symm
  cases passes : GuardPasses c.guard s with
  | false =>
    rw [Machine.led, if_pos passes]
    split
    · exact h.of_cueAt (seriesEnded_cueAt_other other ..)
    · refine h.of_cueAt ((occurrenceDone_cueAt_other other ..).trans ?_)
      split <;> rfl
  | true =>
    cases leading : c.action.leading with
    | none =>
      rw [led_notify passes leading]
      exact h.of_cueAt (by rw [occurrenceDone_cueAt_other other, counted, put])
    | some k =>
      cases pulse : c.action.pulse with
      | true =>
        rw [led_pulse passes leading pulse]
        exact (h.drivenState c k).of_cueAt (by rw [counted, place_cueAt, put])
      | false =>
        rw [led_level passes leading pulse]
        exact (h.drivenState c k).of_cueAt (by rw [occurrenceDone_cueAt_other other, counted, put])

theorem ledOne_of_armed {s : State} {n : Fin 48} {c : Cue} (hc : s.cueAt n = some c) {due sched : Tick} {overdue : Bool}
    (hw : c.wait = .armed due sched overdue) : ledOne s n = led n c sched s := by
  simp only [ledOne, hc, hw]

theorem ArmedAt.ledOne {s : State} {n m : Fin 48} (h : ArmedAt s n) (other : n ≠ m) : ArmedAt (ledOne s m) n := by
  unfold Machine.ledOne
  split
  next => exact h
  next c hc =>
    split
    next => exact h.led other ..
    next => exact h
    next => exact h

/-! ## The channels led to each level (R98) -/

/-- R98: the channels led to a level. -/
def ledTo (l : Led) : Level → Half
  | .low => l.low
  | .high => l.high
  | .flt => l.flt

theorem add_ledTo (l : Led) (driven : Half) (chans : Vector Channel 16) (v : Level) (i : Fin 16) :
    (ledTo (l.add driven chans) v).getLsbD i.val = true ↔
      (ledTo l v).getLsbD i.val = true ∨ (driven.getLsbD i.val = true ∧ chans[i].level = v) := by
  cases v <;>
    simp only [ledTo, Led.add, BitVec.getLsbD_or, BitVec.getLsbD_and, Bool.or_eq_true, Bool.and_eq_true,
      OutputChannels.maskOf_getLsbD, beq_iff_eq]

theorem written_level {m : Half} {i : Fin 16} (h : m.getLsbD i.val = true) (k : LevelKind) (chans : Vector Channel 16) :
    (written m k chans)[i].level = levelAfter k chans[i].level := by
  simp [written, h]

/-- R98: what one leading action adds. -/
theorem ledWith_ledTo {s : State} {n : Fin 48} {c : Cue} (hc : s.cueAt n = some c) (l : Led) (v : Level) (i : Fin 16) :
    (ledTo (ledWith c s l) v).getLsbD i.val = true ↔ (ledTo l v).getLsbD i.val = true ∨ DrivesTo s n i v := by
  unfold ledWith DrivesTo
  split
  next fails => simp [hc, fails]
  next passes =>
    rw [Bool.not_eq_false] at passes
    split
    next leading => simp [hc, leading]
    next k leading =>
      rw [add_ledTo]
      refine or_congr_right ⟨fun ⟨driven, level⟩ => ?_, ?_⟩
      · rw [written_level driven] at level
        rw [drivenBy, OutputChannels.getLsbD_andNot, Bool.and_eq_true, Bool.not_eq_true'] at driven
        obtain ⟨named, host⟩ := driven
        exact ⟨c, k, hc, passes, leading, named, host, level⟩
      · rintro ⟨d, k', hd, -, leading', named, host, level⟩
        obtain rfl : c = d := Option.some.inj (hc.symm.trans hd)
        obtain rfl : k = k' := Option.some.inj (leading.symm.trans leading')
        have driven : (drivenBy c s).getLsbD i.val = true := by
          rw [drivenBy, OutputChannels.getLsbD_andNot, named, host]
          rfl
        exact ⟨driven, (written_level driven ..).trans level⟩

/-- R98: the leading actions of a tick by its first and the rest. -/
theorem ledTo_cons (n : Fin 48) (l : List (Fin 48)) (s : State) (i : Fin 16) (v : Level) :
    LedTo (n :: l) s i v ↔ DrivesTo s n i v ∨ LedTo l (ledOne s n) i v := by
  constructor
  · rintro ⟨before, m, after, parts, drives⟩
    cases before with
    | nil =>
      obtain ⟨rfl, rfl⟩ := List.cons.inj parts
      exact .inl drives
    | cons k before =>
      obtain ⟨rfl, rest⟩ := List.cons.inj parts
      exact .inr ⟨before, m, after, rest, drives⟩
  · rintro (drives | ⟨before, m, after, rfl, drives⟩)
    · exact ⟨[], n, l, rfl, drives⟩
    · exact ⟨n :: before, m, after, rfl, drives⟩

/-- R90, R98: the leading actions of some ARMED cues, one after another, and the channels that they lead. -/
theorem leadingActions_eq (l : List (Fin 48)) (nodup : l.Nodup) (s : State) (led : Led) (armed : ∀ n ∈ l, ArmedAt s n) :
    ∃ after : Led, l.foldl (fun p n => leadingAction n p) (s, led) = (l.foldl ledOne s, after) ∧
      ∀ (i : Fin 16) (v : Level), (ledTo after v).getLsbD i.val = true ↔ (ledTo led v).getLsbD i.val = true ∨ LedTo l s i v := by
  induction l generalizing s led with
  | nil =>
    refine ⟨led, rfl, fun i v => (or_iff_left ?_).symm⟩
    rintro ⟨before, n, after, parts, -⟩
    simp at parts
  | cons n l ih =>
    obtain ⟨fresh, nodup⟩ := List.nodup_cons.1 nodup
    obtain ⟨c, due, sched, overdue, hc, hw⟩ := armed n (.head _)
    obtain ⟨after, fold, bits⟩ := ih nodup (ledOne s n) (ledWith c s led) fun m hm =>
      (armed m (.tail _ hm)).ledOne fun same => fresh (same ▸ hm)
    refine ⟨after, ?_, fun i v => ?_⟩
    · rw [List.foldl_cons, List.foldl_cons, leadingAction_of_armed hc hw, ← ledOne_of_armed hc hw, fold]
    · rw [bits, ledWith_ledTo hc, ledTo_cons, or_assoc]

/-- R98: a conflict channel was led to two levels. -/
theorem conflict_iff (l : Led) (i : Fin 16) :
    l.conflict.getLsbD i.val = true ↔
      ∃ v w : Level, v ≠ w ∧ (ledTo l v).getLsbD i.val = true ∧ (ledTo l w).getLsbD i.val = true := by
  simp only [Led.conflict, BitVec.getLsbD_or, BitVec.getLsbD_and, Bool.or_eq_true, Bool.and_eq_true]
  constructor
  · rintro ((⟨low, high⟩ | ⟨low, flt⟩) | ⟨high, flt⟩)
    · exact ⟨.low, .high, by decide, low, high⟩
    · exact ⟨.low, .flt, by decide, low, flt⟩
    · exact ⟨.high, .flt, by decide, high, flt⟩
  · rintro ⟨v, w, apart, hv, hw⟩
    cases v <;> cases w <;> simp_all [ledTo]

/-! ## The stage (R85) -/

theorem trailingDue_eq (s : State) : trailingDue s = trailsNow s := by
  funext n
  cases hc : s.cueAt n with
  | none => simp only [trailingDue, trailsNow, hc, Option.map_none]
  | some c => cases hw : c.wait <;> simp only [trailingDue, trailsNow, hc, hw, Option.map_some]

theorem leadingDue_eq (s : State) : leadingDue s = armedNow false s := by
  funext n
  cases hc : s.cueAt n with
  | none => simp only [leadingDue, armedNow, hc, Option.map_none]
  | some c => cases hw : c.wait <;> simp [leadingDue, armedNow, hc, hw]

theorem overdueDue_eq (s : State) : overdueDue s = armedNow true s := by
  funext n
  cases hc : s.cueAt n with
  | none => simp only [overdueDue, armedNow, hc, Option.map_none]
  | some c => cases hw : c.wait <;> simp [overdueDue, armedNow, hc, hw]

theorem armedAt_of_armedNow {frozen : Bool} {s : State} {n : Fin 48} (h : armedNow frozen s n = true) : ArmedAt s n := by
  unfold armedNow at h
  split at h
  next => cases h
  next c hc =>
    split at h
    next due sched overdue hw => exact ⟨c, due, sched, overdue, hc, hw⟩
    next => cases h
    next => cases h

/-- R85: the state after the trailing edges of a tick, or its overdue marks. -/
def stageStart (s : State) : State :=
  (s.cues.due.filter (trailsNow s)).foldl trailedOne ((s.cues.due.filter (armedNow true s)).foldl passedOne s)

theorem ArmedAt.stageStart {s : State} {n : Fin 48} (h : ArmedAt s n) : ArmedAt (stageStart s) n :=
  have marked := List.foldlRecOn (motive := fun t => ArmedAt t n) (s.cues.due.filter (armedNow true s)) Machine.passedOne h
    fun _ ht m _ => ht.passedOne m
  List.foldlRecOn (motive := fun t => ArmedAt t n) (s.cues.due.filter (trailsNow s)) Machine.trailedOne marked
    fun _ ht m _ => ht.trailedOne m

theorem cueStage_eq (s : State) :
    cueStage s =
      reportConflict
        ((s.cues.due.filter (armedNow false s)).foldl (fun p n => leadingAction n p) (stageStart s, Led.start)).2
        ((s.cues.due.filter (armedNow false s)).foldl (fun p n => leadingAction n p) (stageStart s, Led.start)).1 := by
  have marks : (fun s n => markOverdue n s) = passedOne := funext₂ fun s n => markOverdue_eq n s
  have edges : (fun s n => trailingEdge n s) = trailedOne := funext₂ fun s n => trailingEdge_eq n s
  simp only [cueStage, marks, edges, trailingDue_eq, leadingDue_eq, overdueDue_eq, stageStart]

theorem start_ledTo (v : Level) (i : Fin 16) : (ledTo Led.start v).getLsbD i.val = false := by
  cases v <;> simp [ledTo, Led.start]

/-- Settles O46: the conflict mask gathers the channels that the leading actions lead to two levels. -/
theorem conflictsCompareResultingLevels : Obligations.ConflictsCompareResultingLevels := by
  unfold Obligations.ConflictsCompareResultingLevels
  intro s ⟨nodup, _⟩
  obtain ⟨after, fold, bits⟩ := leadingActions_eq (s.cues.due.filter (armedNow false s)) (nodup.filter _) (stageStart s) Led.start
    fun n hn => (armedAt_of_armedNow (List.mem_filter.1 hn).2).stageStart
  refine ⟨after.conflict, fun i => ?_, ?_⟩
  · simp only [conflict_iff, bits, start_ledTo, Bool.false_eq_true, false_or]
    rfl
  · rw [cueStage_eq, fold]
    rfl

end Sys2Proof.TheCueTable
end

section
/-! PROOFS. CUE.ADD and CUE.AMEND. -/

open Sys2Proof Sys2Proof.Machine Sys2Proof.TimebaseAndTicks

namespace Sys2Proof.TheCueTable

/-! ## Due ticks (R32) -/

theorem dueClass_beyond_iff (now due : Tick) : dueClass now due = .beyond ↔ BeyondHorizon now due := by
  change dueClass now due = .beyond ↔ 2 ^ 30 < distance now due ∧ distance now due < 2 ^ 31
  have horizon : Config.horizon = 2 ^ 30 := rfl
  unfold dueClass
  split_ifs <;> simp only [false_iff, true_iff] <;> omega

theorem dueClass_late_iff (now due : Tick) : dueClass now due = .late ↔ Late now due := by
  change dueClass now due = .late ↔ distance now due = 0 ∨ 2 ^ 31 ≤ distance now due
  have horizon : Config.horizon = 2 ^ 30 := rfl
  unfold dueClass
  split_ifs <;> simp only [false_iff, true_iff] <;> omega

/-! ## A cue put in its slot at a due tick (R74, R75, R106, R107) -/

theorem handleOf_congr {s t : State} {n : Fin 48} (h : t.cues.slots[n].gen = s.cues.slots[n].gen) :
    handleOf t n = handleOf s n := by
  rw [handleOf, handleOf, h]

/-- R75: the reply for a cue that is ARMED. -/
theorem cueDone_of_armed {n : Fin 48} {c : Cue} {s : State} (hc : s.cueAt n = some c) {due sched : Tick} {overdue : Bool}
    (hw : c.wait = .armed due sched overdue) (k : Nat) :
    cueDone n k s = done (armedPayload (handleOf s n) due k) s := by
  simp only [cueDone, cuePayload, hc, hw]
  rfl

theorem acceptedAhead_handle (n : Fin 48) (c : Cue) (due : Tick) (s : State) :
    handleOf (acceptedAhead n c due s) n = handleOf s n :=
  handleOf_congr (by rw [acceptedAhead, place_slots, State.setCue_gen])

theorem settleDue_ahead (n : Fin 48) (c : Cue) (due : Tick) {cls : DueClass} (ahead : cls ≠ .late) (s : State) :
    settleDue n c due cls s = done (armedPayload (handleOf s n) due 0) (acceptedAhead n c due s) := by
  have cue : (acceptedAhead n c due s).cueAt n = some { c with trigger := .atTime due, wait := .armed due due false } := by
    rw [acceptedAhead, place_cueAt, State.setCue_cueAt_same]
  rw [← acceptedAhead_handle n c due s, ← cueDone_of_armed cue rfl]
  cases cls with
  | late => exact absurd rfl ahead
  | acceptable => rfl
  | beyond => rfl

/-- R106, R107: one consumed occurrence fires, the others are missed. -/
theorem lateCount_fire {c : Cue} (fire : c.late = .fire) (due now : Tick) :
    lateCount c due now false - 1 = lateMissed c now due := by
  have cutoff : lateCutoff c now = if c.action.pulse = true then now + 1 + c.width.setWidth 32 else now + 1 := by
    rw [lateCutoff, fire]
  simp only [lateCount, lateMissed, Bool.false_and, Bool.false_eq_true, if_false, cutoff]
  by_cases single : c.occurrences = 1
  · rw [if_pos single, if_pos single]
  · rw [if_neg single, if_neg single]
    generalize ((if c.action.pulse = true then now + 1 + c.width.setWidth 32 else now + 1) - due).toNat / c.period.toNat = grid
    by_cases unlimited : c.occurrences = 0
    · simp [Cue.limited, unlimited]
    · simp only [Cue.limited, bne_iff_ne, ne_eq, unlimited, not_false_eq_true, if_true, if_false]
      omega

theorem missOccurrences_gen (n m : Fin 48) (c : Cue) (k : Nat) (s : State) :
    (missOccurrences n c k s).cues.slots[m].gen = s.cues.slots[m].gen := by
  rw [missOccurrences_slots]

theorem missOccurrences_cueAt (n m : Fin 48) (c : Cue) (k : Nat) (s : State) :
    (missOccurrences n c k s).cueAt m = s.cueAt m :=
  cueAt_of_slots (missOccurrences_slots ..) m

/-- R107: the cue that is accepted late, as it stands in its slot. -/
def lateCue (c : Cue) (due now : Tick) : Cue :=
  { c with
    trigger := .atTime due
    wait := .armed (now + 1) (due + BitVec.ofNat 32 (lateMissed c now due) * c.period) false
    begun := c.begun || lateMissed c now due != 0
    remaining := if c.occurrences = 0 then c.remaining else c.remaining - halfN (lateMissed c now due) }

theorem missOccurrences_setCue (n : Fin 48) (c d : Cue) (k : Nat) (s : State) :
    missOccurrences n c k (s.setCue n d) =
      if k = 0 then s.setCue n d
      else raise .missed (handleOf s n) c.tag (satHalf k)
        ((s.setCue n d).setCues { (s.setCue n d).cues with missed := s.cues.missed + BitVec.ofNat 32 k }) := by
  rw [missOccurrences]
  split
  · rfl
  · exact congrArg (fun h => raise .missed h c.tag (satHalf k)
      ((s.setCue n d).setCues { (s.setCue n d).cues with missed := s.cues.missed + BitVec.ofNat 32 k }))
      (handleOf_congr (State.setCue_gen s n n d))

theorem acceptedLate_eq (n : Fin 48) (c : Cue) (due : Tick) (s : State) :
    acceptedLate n c due s =
      place n (missOccurrences n c (lateMissed c s.time.tick due) (s.setCue n (lateCue c due s.time.tick))) := by
  rw [missOccurrences_setCue]
  rfl

theorem lateRule_of_fire {d : Cue} (fire : d.late = .fire) {due sched : Tick} {overdue : Bool}
    (hw : d.wait = .armed due sched overdue) (n : Fin 48) (saturated : Bool) (s : State) :
    lateRule n saturated (s.setCue n d) = lateFire n d sched saturated (s.setCue n d) := by
  simp only [lateRule, State.setCue_cueAt_same, hw, fire]

/-- R107: the late rule under LATE_FIRE at the count that `lateMissed` gives. -/
theorem lateFire_eq {d : Cue} (fire : d.late = .fire) (n : Fin 48) (sched : Tick) (s : State) :
    lateFire n d sched false s =
      { state := place n (missOccurrences n d (lateMissed d s.time.tick sched) (s.setCue n
          { d with
            wait := .armed (s.time.tick + 1) (sched + BitVec.ofNat 32 (lateMissed d s.time.tick sched) * d.period) false
            begun := d.begun || lateMissed d s.time.tick sched != 0
            remaining := if d.occurrences = 0 then d.remaining else d.remaining - halfN (lateMissed d s.time.tick sched) }))
        missed := lateMissed d s.time.tick sched
        ended := false } := by
  simp only [lateFire, lateCount_fire fire, Bool.false_and, Bool.false_eq_true, if_false, Cue.limited, bne_iff_ne, ne_eq,
    ite_not]

theorem lateRule_fire {n : Fin 48} {c : Cue} (fire : c.late = .fire) (due : Tick) (s : State) :
    lateRule n false (s.setCue n { c with trigger := .atTime due, wait := .armed due due false }) =
      { state := acceptedLate n c due s, missed := lateMissed c s.time.tick due, ended := false } := by
  have fire' : Cue.late { c with trigger := .atTime due, wait := .armed due due false } = .fire := fire
  rw [lateRule_of_fire fire' rfl, lateFire_eq fire', State.setCue_setCue, acceptedLate_eq]
  rfl

theorem settleDue_late {n : Fin 48} {c : Cue} (fire : c.late = .fire) (due : Tick) (s : State) :
    settleDue n c due .late s =
      done (armedPayload (handleOf s n) (s.time.tick + 1) (lateMissed c s.time.tick due)) (acceptedLate n c due s) := by
  have cue : (acceptedLate n c due s).cueAt n = some (lateCue c due s.time.tick) := by
    rw [acceptedLate_eq, place_cueAt, missOccurrences_cueAt, State.setCue_cueAt_same]
  have handle : handleOf (acceptedLate n c due s) n = handleOf s n :=
    handleOf_congr (by rw [acceptedLate_eq, place_slots, missOccurrences_gen, State.setCue_gen])
  simp only [settleDue, lateRule_fire fire]
  rw [cueDone_of_armed cue rfl, handle]

/-! ## The replies (R73, R74, R79) -/

theorem acceptedAhead_sys (n : Fin 48) (c : Cue) (due : Tick) (s : State) : (acceptedAhead n c due s).sys = s.sys := by
  rw [acceptedAhead, place_sys]
  rfl

theorem acceptedAhead_pins (n : Fin 48) (c : Cue) (due : Tick) (s : State) : (acceptedAhead n c due s).pins = s.pins := by
  rw [acceptedAhead, place_pins]
  rfl

theorem acceptedLate_sys (n : Fin 48) (c : Cue) (due : Tick) (s : State) : (acceptedLate n c due s).sys = s.sys := by
  rw [acceptedLate_eq, place_sys, missOccurrences_sys]
  rfl

theorem acceptedLate_pins (n : Fin 48) (c : Cue) (due : Tick) (s : State) : (acceptedLate n c due s).pins = s.pins := by
  rw [acceptedLate_eq, place_pins, missOccurrences_pins]
  rfl

section
variable {f : Frame} {s : State} {body : List Byte → State → Reply} {n : Fin 48} {c : Cue} {due : Tick}

/-- R74, R79: a command whose block settles a cue at a due tick of a class that is accepted. -/
theorem serve_settled (served : Served f s) (accepted : ¬(Late s.time.tick due ∧ c.late = .skip))
    (reply : body f.params (met f.pins s) = settleDue n c due (dueClass s.time.tick due) (met f.pins s)) :
    serveCommand (plain body) f s =
      if Late s.time.tick due then
        granted f (armedPayload (handleOf s n) (s.time.tick + 1) (lateMissed c s.time.tick due))
          (acceptedLate n c due (met f.pins s))
      else granted f (armedPayload (handleOf s n) due 0) (acceptedAhead n c due (met f.pins s)) := by
  split
  next late =>
    have fire : c.late = .fire := by
      cases policy : c.late with
      | fire => rfl
      | skip => exact absurd ⟨late, policy⟩ accepted
    rw [(dueClass_late_iff ..).2 late, settleDue_late fire] at reply
    refine serveCommand_done served reply ?_ ?_
    · rw [acceptedLate_sys]
      exact served_softPending served
    · rw [acceptedLate_pins]
      rfl
  next ahead =>
    rw [settleDue_ahead n c due (fun e => ahead ((dueClass_late_iff ..).1 e))] at reply
    refine serveCommand_done served reply ?_ ?_
    · rw [acceptedAhead_sys]
      exact served_softPending served
    · rw [acceptedAhead_pins]
      rfl

end

/-! ## CUE.ADD -/

theorem lowestFree_met (pins : InPins) (s : State) :
    lowestFree (met pins s) = (List.finRange 48).find? fun n => (s.cueAt n).isNone := rfl

/-- R73: a HOOK cue. -/
theorem serve_addHook {f : Frame} {s : State} (served : Served f s) (length : f.params.length = 20) {c : Cue}
    (parse : parseCue f.params = some c) {line : Fin 8} {edge : HookEdge} {delay : Half} (hook : c.trigger = .hook line edge delay) :
    serveCommand (plain cmdCueAdd) f s =
      match (List.finRange 48).find? fun n => (s.cueAt n).isNone with
      | none => refusedWith f .full s
      | some n =>
        granted f (be16 (handleOf s n) ++ [0x03] ++ be32 0 ++ be16 0) ((met f.pins s).setCue n c) := by
  obtain ⟨-, hooked⟩ := fresh_of_parseCue parse
  rw [← lowestFree_met f.pins s]
  split
  next none =>
    refine serveCommand_fail served ?_ (by decide)
    simp only [cmdCueAdd, length, ne_eq, not_true_eq_false, if_false, parse, addCue, hook, none]
  next n free =>
    refine serveCommand_done served ?_ (served_softPending served) rfl
    have handle : handleOf ((met f.pins s).setCue n c) n = handleOf s n := handleOf_congr (State.setCue_gen _ n n c)
    simp only [cmdCueAdd, length, ne_eq, not_true_eq_false, if_false, parse, addCue, hook, free, cueDone, cuePayload,
      State.setCue_cueAt_same, hooked line edge delay hook, handle]
    rfl

/-- R74, R106, R107: an AT_TIME cue. -/
theorem serve_addTime {f : Frame} {s : State} (served : Served f s) (length : f.params.length = 20) {c : Cue}
    (parse : parseCue f.params = some c) {due : Tick} (time : c.trigger = .atTime due) :
    serveCommand (plain cmdCueAdd) f s =
      if BeyondHorizon s.time.tick due then refusedWith f .horizon s
      else if Late s.time.tick due ∧ c.late = .skip then refusedWith f .late s
      else match (List.finRange 48).find? fun n => (s.cueAt n).isNone with
        | none => refusedWith f .full s
        | some n =>
          if Late s.time.tick due then
            granted f (armedPayload (handleOf s n) (s.time.tick + 1) (lateMissed c s.time.tick due))
              (acceptedLate n c due (met f.pins s))
          else granted f (armedPayload (handleOf s n) due 0) (acceptedAhead n c due (met f.pins s)) := by
  have body : cmdCueAdd f.params (met f.pins s) =
      if BeyondHorizon s.time.tick due then fail .horizon (met f.pins s)
      else if Late s.time.tick due ∧ c.late = .skip then fail .late (met f.pins s)
      else match lowestFree (met f.pins s) with
        | none => fail .full (met f.pins s)
        | some n => settleDue n c due (dueClass s.time.tick due) (met f.pins s) := by
    simp only [cmdCueAdd, length, ne_eq, not_true_eq_false, if_false, parse, addCue, time, ← dueClass_beyond_iff,
      ← dueClass_late_iff]
    rfl
  rw [← lowestFree_met f.pins s]
  split
  next beyond => exact serveCommand_fail served (by rw [body, if_pos beyond]) (by decide)
  next within =>
    rw [if_neg within] at body
    split
    next late => exact serveCommand_fail served (by rw [body, if_pos late]) (by decide)
    next accepted =>
      rw [if_neg accepted] at body
      split
      next full => exact serveCommand_fail served (by rw [body, full]) (by decide)
      next n free => exact serve_settled served accepted (by rw [body, free])

/-- Settles O20: a HOOK cue and an AT_TIME cue apart. -/
theorem cueAddCreatesACue : Obligations.CueAddCreatesACue := by
  unfold Obligations.CueAddCreatesACue
  intro f s served
  refine congrArg Host.Outcome.next ?_
  split
  next length =>
    exact serveCommand_fail served (by simp only [cmdCueAdd, length, ne_eq, not_false_eq_true, if_true]) (by decide)
  next length =>
    have length : f.params.length = 20 := not_not.1 length
    cases parse : parseCue f.params with
    | none =>
      refine serveCommand_fail served ?_ (by decide)
      simp only [cmdCueAdd, length, ne_eq, not_true_eq_false, if_false, parse]
    | some c =>
      cases trigger : c.trigger with
      | hook line edge delay =>
        simp only [trigger]
        rw [serve_addHook served length parse trigger]
        cases (List.finRange 48).find? fun n => (s.cueAt n).isNone with
        | none => rfl
        | some n => rfl
      | atTime due =>
        simp only [trigger]
        exact serve_addTime served length parse trigger

/-! ## CUE.AMEND -/

theorem not_amendable_iff (c : Cue) :
    (!amendable c) = true ↔ c.isHook = true ∨ c.begun = true ∨ c.wait.code ≠ 0x01 := by
  unfold amendable
  cases c.isHook with
  | true => simp
  | false =>
    cases c.begun with
    | true => simp
    | false => cases c.wait <;> simp [Wait.code]

/-- R79: CUE.AMEND with its six parameter bytes. -/
theorem serve_amend {f : Frame} {s : State} (served : Served f s) {h l b0 b1 b2 b3 : Byte}
    (params : f.params = [h, l, b0, b1, b2, b3]) {due : Tick} (word : b0 ++ b1 ++ b2 ++ b3 = due) :
    serveCommand (plain cmdCueAmend) f s =
      match resolveHandle (h ++ l) s with
      | .invalid => refusedWith f .param s
      | .stale => refusedWith f .stale s
      | .live n c =>
        if c.isHook = true ∨ c.begun = true ∨ c.wait.code ≠ 0x01 then refusedWith f .state s
        else if BeyondHorizon s.time.tick due then refusedWith f .horizon s
        else if Late s.time.tick due ∧ c.late = .skip then refusedWith f .late s
        else if Late s.time.tick due then
          granted f (armedPayload (h ++ l) (s.time.tick + 1) (lateMissed c s.time.tick due))
            (acceptedLate n c due (met f.pins s))
        else granted f (armedPayload (h ++ l) due 0) (acceptedAhead n c due (met f.pins s)) := by
  have body : cmdCueAmend f.params (met f.pins s) =
      match resolveHandle (h ++ l) s with
      | .invalid => fail .param (met f.pins s)
      | .stale => fail .stale (met f.pins s)
      | .live n c =>
        if c.isHook = true ∨ c.begun = true ∨ c.wait.code ≠ 0x01 then fail .state (met f.pins s)
        else if BeyondHorizon s.time.tick due then fail .horizon (met f.pins s)
        else if Late s.time.tick due ∧ c.late = .skip then fail .late (met f.pins s)
        else settleDue n c due (dueClass s.time.tick due) (met f.pins s) := by
    simp only [← not_amendable_iff, ← dueClass_beyond_iff, ← dueClass_late_iff]
    rw [params, ← word]
    rfl
  cases named : resolveHandle (h ++ l) s with
  | invalid => exact serveCommand_fail served (by rw [body, named]) (by decide)
  | stale => exact serveCommand_fail served (by rw [body, named]) (by decide)
  | live n c =>
    rw [named] at body
    dsimp only at body ⊢
    split
    next begun => exact serveCommand_fail served (by rw [body, if_pos begun]) (by decide)
    next waiting =>
      rw [if_neg waiting] at body
      split
      next beyond => exact serveCommand_fail served (by rw [body, if_pos beyond]) (by decide)
      next within =>
        rw [if_neg within] at body
        split
        next late => exact serveCommand_fail served (by rw [body, if_pos late]) (by decide)
        next accepted =>
          rw [if_neg accepted] at body
          rw [serve_settled served accepted body, handleOf_of_live named]

/-- Settles O21: six parameter bytes by `serve_amend`, any other number by its length. -/
theorem cueAmendMovesTheFirstOccurrence : Obligations.CueAmendMovesTheFirstOccurrence := by
  unfold Obligations.CueAmendMovesTheFirstOccurrence
  intro f s served
  refine congrArg Host.Outcome.next ?_
  have format (length : f.params.length ≠ 6) : serveCommand (plain cmdCueAmend) f s = refusedWith f .format s :=
    serveCommand_fail served (by simp only [cmdCueAmend, length, ne_eq, not_false_eq_true, if_true]) (by decide)
  split
  next h l b0 b1 b2 b3 params => exact serve_amend served params rfl
  next other =>
    refine format fun length => ?_
    match params : f.params, length with
    | [h, l, b0, b1, b2, b3], _ => exact other h l b0 b1 b2 b3 params

end Sys2Proof.TheCueTable
end

section
/-! PROOFS. The record of a cue. -/

open Sys2Proof Sys2Proof.Machine

namespace Sys2Proof.TheCueTable

/-! ## Fields of several bytes -/

theorem half_of_bytes (x : Half) : x.extractLsb' 8 8 ++ x.extractLsb' 0 8 = x := BitVec.extractLsb'_append_extractLsb'

theorem tri_of_bytes (x : BitVec 24) : x.extractLsb' 16 8 ++ x.extractLsb' 8 8 ++ x.extractLsb' 0 8 = x := by
  rw [BitVec.extractLsb'_append_extractLsb'_eq_extractLsb' (by decide)]
  exact BitVec.extractLsb'_append_extractLsb'

theorem word_of_bytes (x : Tick) :
    x.extractLsb' 24 8 ++ x.extractLsb' 16 8 ++ x.extractLsb' 8 8 ++ x.extractLsb' 0 8 = x := by
  rw [BitVec.extractLsb'_append_extractLsb'_eq_extractLsb' (by decide),
    BitVec.extractLsb'_append_extractLsb'_eq_extractLsb' (by decide)]
  exact BitVec.extractLsb'_append_extractLsb'

theorem be24_append (a b c : Byte) : be24 (a ++ b ++ c) = [a, b, c] := by
  have first : (a ++ b ++ c).extractLsb' 16 8 = a :=
    (BitVec.extractLsb'_append_eq_of_le (by decide)).trans BitVec.extractLsb'_append_eq_left
  have second : (a ++ b ++ c).extractLsb' 8 8 = b :=
    (BitVec.extractLsb'_append_eq_of_le (by decide)).trans BitVec.extractLsb'_append_eq_right
  rw [be24, first, second, BitVec.extractLsb'_append_eq_right]

theorem be32_append (a b c d : Byte) : be32 (a ++ b ++ c ++ d) = [a, b, c, d] := by
  have first : (a ++ b ++ c ++ d).extractLsb' 24 8 = a :=
    (BitVec.extractLsb'_append_eq_of_le (by decide)).trans
      ((BitVec.extractLsb'_append_eq_of_le (by decide)).trans BitVec.extractLsb'_append_eq_left)
  have second : (a ++ b ++ c ++ d).extractLsb' 16 8 = b :=
    (BitVec.extractLsb'_append_eq_of_le (by decide)).trans
      ((BitVec.extractLsb'_append_eq_of_le (by decide)).trans BitVec.extractLsb'_append_eq_right)
  have third : (a ++ b ++ c ++ d).extractLsb' 8 8 = c :=
    (BitVec.extractLsb'_append_eq_of_le (by decide)).trans BitVec.extractLsb'_append_eq_right
  rw [be32, first, second, third, BitVec.extractLsb'_append_eq_right]

/-! ## Bits of a byte -/

theorem foldl_testBit (bits : List Bool) (i : Nat) :
    (bits.foldl (fun n (b : Bool) => 2 * n + b.toNat) 0).testBit i = bits.reverse.getD i false := by
  induction bits using List.reverseRecOn generalizing i with
  | nil => simp
  | append_singleton bits b ih =>
    rw [List.foldl_append, List.reverse_append]
    simp only [List.foldl_cons, List.foldl_nil, List.reverse_cons, List.reverse_nil, List.nil_append, List.singleton_append]
    cases i with
    | zero => cases b <;> simp
    | succ i =>
      rw [List.getD_cons_succ, ← ih, Nat.testBit_add_one]
      congr 1
      cases b <;> simp only [Bool.toNat_true, Bool.toNat_false] <;> omega

/-- The bits of a byte that is packed from a list, the last of the list in bit 0. -/
theorem packBits_getLsbD (bits : List Bool) {i : Nat} (hi : i < 8) :
    (packBits bits).getLsbD i = bits.reverse.getD i false := by
  rw [packBits, byteN, BitVec.getLsbD_ofNat, foldl_testBit, decide_eq_true hi, Bool.true_and]

/-- A field of a byte that holds a number. -/
theorem field_toNat {b : Byte} {start width n : Nat} (lt : n < 2 ^ width) (bits : ∀ i < width, b.getLsbD (start + i) = n.testBit i) :
    (b.extractLsb' start width).toNat = n := by
  refine Nat.eq_of_testBit_eq fun i => ?_
  rw [BitVec.testBit_toNat, BitVec.getLsbD_extractLsb']
  by_cases hi : i < width
  · rw [decide_eq_true hi, Bool.true_and, bits i hi]
  · rw [decide_eq_false hi, Bool.false_and, Nat.testBit_lt_two_pow (lt.trans_le (Nat.pow_le_pow_right (by decide) (by omega)))]

/-- The bits of a number that a field of a byte holds. -/
theorem testBit_field (b : Byte) (start : Nat) {width i : Nat} (hi : i < width) :
    (b.extractLsb' start width).toNat.testBit i = b.getLsbD (start + i) := by
  rw [BitVec.testBit_toNat, BitVec.getLsbD_extractLsb', decide_eq_true hi, Bool.true_and]

/-- Bytes with the same bits. -/
theorem byte_eq {a b : Byte} (h : ∀ i < 8, a.getLsbD i = b.getLsbD i) : a = b := BitVec.eq_of_getLsbD_eq h

/-! ## Control byte and guard byte (R62, R63, R66) -/

theorem controlByte_getLsbD (c : Cue) {i : Nat} (hi : i < 8) :
    c.controlByte.getLsbD i =
      [c.late == .skip, c.notifyFire, c.notifyEnd, c.retrigger, c.rearm, c.priority.val.testBit 0, c.priority.val.testBit 1,
        c.isHook].getD i false :=
  packBits_getLsbD _ hi

/-- R62: the priority is bits 6 and 5 of the control byte. -/
theorem controlByte_priority (c : Cue) : Fin.ofNat 4 (c.controlByte.extractLsb' 5 2).toNat = c.priority := by
  have field : (c.controlByte.extractLsb' 5 2).toNat = c.priority.val := by
    refine field_toNat c.priority.isLt fun i hi => ?_
    interval_cases i
    · exact controlByte_getLsbD c (by decide)
    · exact controlByte_getLsbD c (by decide)
  rw [field]
  exact Fin.ofNat_val_eq_self _

/-- Table 4-3: the guard byte of a guard. -/
def guardBits (g : Guard) : Byte :=
  packBits [true, g.line.val.testBit 2, g.line.val.testBit 1, g.line.val.testBit 0, g.high, g.policy == .abandon, false, false]

theorem guardByte_of_guard {c : Cue} {g : Guard} (h : c.guard = some g) : c.guardByte = guardBits g := by
  rw [Cue.guardByte, h]
  rfl

theorem guardByte_of_none {c : Cue} (h : c.guard = none) : c.guardByte = 0 := by
  rw [Cue.guardByte, h]

theorem guardBits_getLsbD (g : Guard) {i : Nat} (hi : i < 8) :
    (guardBits g).getLsbD i =
      [false, false, g.policy == .abandon, g.high, g.line.val.testBit 0, g.line.val.testBit 1, g.line.val.testBit 2,
        true].getD i false :=
  packBits_getLsbD _ hi

theorem parseGuard_guardBits (g : Guard) : parseGuard (guardBits g) = some (some g) := by
  have marked : (guardBits g).getLsbD 7 = true := guardBits_getLsbD g (by decide)
  have high : (guardBits g).getLsbD 3 = g.high := guardBits_getLsbD g (by decide)
  have policy : (guardBits g).getLsbD 2 = (g.policy == .abandon) := guardBits_getLsbD g (by decide)
  have clear : guardBits g &&& 0x03 = 0 := by
    refine byte_eq fun i hi => ?_
    rw [BitVec.getLsbD_and, guardBits_getLsbD g hi]
    interval_cases i <;> simp
  have line : ((guardBits g).extractLsb' 4 3).toNat = g.line.val := by
    refine field_toNat g.line.isLt fun i hi => ?_
    interval_cases i
    · exact guardBits_getLsbD g (by decide)
    · exact guardBits_getLsbD g (by decide)
    · exact guardBits_getLsbD g (by decide)
  rw [parseGuard, if_pos marked, if_pos clear, line, high, policy]
  obtain ⟨gl, gh, gp⟩ := g
  cases gp <;> simp

theorem parseGuard_guardByte (c : Cue) : parseGuard c.guardByte = some c.guard := by
  cases hg : c.guard with
  | none => rw [guardByte_of_none hg]; rfl
  | some g => rw [guardByte_of_guard hg, parseGuard_guardBits]

/-- R66: the guard that a marked byte describes has that byte. -/
theorem guardBits_of_parse {b : Byte} {g : Guard} (h : parseGuard b = some (some g)) : guardBits g = b := by
  unfold parseGuard at h
  split at h
  next marked =>
    split at h
    next clear =>
      cases h
      have low {i : Nat} (bit : (0x03 : Byte).getLsbD i = true) : b.getLsbD i = false := by
        have both := congrArg (·.getLsbD i) clear
        rw [BitVec.getLsbD_and, bit, Bool.and_true] at both
        exact both.trans BitVec.getLsbD_zero
      have line {i : Nat} (hi : i < 3) : (Fin.ofNat 8 (b.extractLsb' 4 3).toNat).val.testBit i = b.getLsbD (4 + i) := by
        rw [Fin.val_ofNat, Nat.mod_eq_of_lt (b.extractLsb' 4 3).isLt, testBit_field b 4 hi]
      refine byte_eq fun i hi => ?_
      rw [guardBits_getLsbD _ hi]
      interval_cases i
      · exact (low (by decide)).symm
      · exact (low (by decide)).symm
      · cases h2 : b.getLsbD 2 <;> simp
      · rfl
      · exact line (by decide)
      · exact line (by decide)
      · exact line (by decide)
      · exact marked.symm
    next => cases h
  next =>
    split at h
    next => cases h
    next => cases h

theorem guardByte_of_parse {b : Byte} {c : Cue} (h : parseGuard b = some c.guard) : c.guardByte = b := by
  cases hg : c.guard with
  | some g =>
    rw [hg] at h
    rw [guardByte_of_guard hg, guardBits_of_parse h]
  | none =>
    rw [hg, parseGuard] at h
    rw [guardByte_of_none hg]
    split at h
    next =>
      split at h
      next => cases h
      next => cases h
    next =>
      split at h
      next zero => exact zero.symm
      next => cases h

/-! ## Triggers and actions (R63, R64) -/

theorem action_ofCode_code (a : Action) : Action.ofCode a.code = some a := by
  cases a <;> rfl

theorem action_code_of_ofCode {b : Byte} {a : Action} (h : Action.ofCode b = some a) : a.code = b := by
  unfold Action.ofCode at h
  split_ifs at h <;> cases h <;> simp only [Action.code, *]

/-- R63: the trigger data of a HOOK cue, byte by byte. -/
theorem hook_fields {c : Cue} {line : Fin 8} {edge : HookEdge} {delay : Half} (hook : c.trigger = .hook line edge delay) :
    (byteAt (cueBytes c) 1).toNat = line.val ∧ HookEdge.ofCode (byteAt (cueBytes c) 2) = some edge ∧
      halfAt (cueBytes c) 3 = delay := by
  rw [cueBytes, hook]
  refine ⟨?_, ?_, half_of_bytes delay⟩
  · exact (BitVec.toNat_ofNat ..).trans (Nat.mod_eq_of_lt (by omega))
  · cases edge <;> rfl

theorem parseTrigger_cueBytes (c : Cue) : parseTrigger (cueBytes c) = some c.trigger := by
  have hook : c.controlByte.getLsbD 7 = c.isHook := controlByte_getLsbD c (by decide)
  rw [parseTrigger, cueBytes_control, hook, Cue.isHook]
  cases trigger : c.trigger with
  | atTime due =>
    have word : wordAt (cueBytes c) 1 = due := by
      rw [cueBytes, trigger]
      exact word_of_bytes due
    simp only [word, Bool.false_eq_true, if_false]
  | hook line edge delay =>
    obtain ⟨number, code, half⟩ := hook_fields trigger
    have lt : (byteAt (cueBytes c) 1).toNat < 8 := number ▸ line.isLt
    simp only [if_true, dif_pos lt, code, half, Option.map_some]
    simp only [number]

/-- Table 4-3: the trigger data of a hook whose edge was read from a byte. -/
theorem triggerBytes_hook {b : Byte} {edge : HookEdge} (h : HookEdge.ofCode b = some edge) (line : Fin 8) (delay : Half) :
    triggerBytes (.hook line edge delay) = [byteN line.val, b] ++ be16 delay := by
  unfold HookEdge.ofCode at h
  split_ifs at h with rising falling either
  · cases h
    rw [rising]
    rfl
  · cases h
    rw [falling]
    rfl
  · cases h
    rw [either]
    rfl

/-- R63: the trigger that is read has the trigger data that it is read from, and bit 7 of the control byte. -/
theorem triggerBytes_of_parse {p : List Byte} {c : Cue} (h : parseTrigger p = some c.trigger) :
    triggerBytes c.trigger = [byteAt p 1, byteAt p 2, byteAt p 3, byteAt p 4] ∧ (byteAt p 0).getLsbD 7 = c.isHook := by
  unfold Cue.isHook
  generalize c.trigger = t at h ⊢
  unfold parseTrigger at h
  split at h
  next hook =>
    split at h
    next lt =>
      obtain ⟨edge, code, rfl⟩ := Option.map_eq_some_iff.1 h
      have number : byteN (byteAt p 1).toNat = byteAt p 1 := BitVec.ofNat_toNat ..
      refine ⟨?_, hook⟩
      rw [triggerBytes_hook code, number, halfAt, be16_append]
      rfl
    next => cases h
  next time =>
    cases h
    exact ⟨be32_append .., by simpa using time⟩

end Sys2Proof.TheCueTable
end

section
/-! PROOFS. Reading a cue from its record. -/

open Sys2Proof Sys2Proof.Machine

namespace Sys2Proof.TheCueTable

/-! ## What CUE.ADD accepts (R63 to R65) -/

theorem controlOk_iff (b : Byte) :
    controlOk b = true ↔ (b.getLsbD 7 = false → b.getLsbD 3 = false ∧ b.getLsbD 4 = false) := by
  unfold controlOk
  cases b.getLsbD 7 <;> cases b.getLsbD 4 <;> cases b.getLsbD 3 <;> decide

theorem actionOk_iff (a : Action) (mask : Half) (width : BitVec 24) :
    actionOk a mask width = true ↔ (if a = .notify then mask = 0 else mask ≠ 0) ∧ (a.pulse = true → width ≠ 0) := by
  unfold actionOk
  by_cases notify : a = .notify
  · subst notify
    simp [Action.pulse, Action.trailing]
  · cases pulse : a.pulse <;> simp [notify]

theorem periodOk_iff (a : Action) (width : BitVec 24) (occurrences : Half) (period : Tick) :
    periodOk a width occurrences period = true ↔
      (occurrences ≠ 1 → 2 ≤ period.toNat ∧ period.toNat ≤ 16777216 ∧ (a.pulse = true → width.toNat < period.toNat)) := by
  unfold periodOk
  simp only [Bool.or_eq_true, beq_iff_eq, Bool.and_eq_true, decide_eq_true_eq, and_assoc, or_iff_not_imp_left, ne_eq,
    Bool.not_eq_true', Bool.not_eq_false]

/-! ## Records and cues (R62 to R67) -/

/-- R62 to R67: a record of twenty bytes describes a cue, field by field. -/
structure Describes (p : List Byte) (c : Cue) : Prop where
  trigger : parseTrigger p = some c.trigger
  action : Action.ofCode (byteAt p 7) = some c.action
  guard : parseGuard (byteAt p 17) = some c.guard
  controlOk : controlOk (byteAt p 0) = true
  actionOk : actionOk c.action (halfAt p 5) (triAt p 8) = true
  periodOk : periodOk c.action (triAt p 8) (halfAt p 11) (wordAt p 13) = true
  late : c.late = if (byteAt p 0).getLsbD 0 then .skip else .fire
  notifyFire : c.notifyFire = (byteAt p 0).getLsbD 1
  notifyEnd : c.notifyEnd = (byteAt p 0).getLsbD 2
  retrigger : c.retrigger = (byteAt p 0).getLsbD 3
  rearm : c.rearm = (byteAt p 0).getLsbD 4
  mask : c.mask = halfAt p 5
  width : c.width = if c.action.pulse then triAt p 8 else 0
  occurrences : c.occurrences = halfAt p 11
  period : c.period = wordAt p 13
  priority : c.priority = Fin.ofNat 4 ((byteAt p 0).extractLsb' 5 2).toNat
  tag : c.tag = halfAt p 18
  fresh : c.fresh

theorem describes_of_parseCue {p : List Byte} {c : Cue} (h : parseCue p = some c) : Describes p c := by
  simp only [parseCue] at h
  split at h
  next trigger action guard ht ha hg =>
    split at h
    next ok =>
      simp only [Bool.and_eq_true] at ok
      obtain ⟨⟨control, act⟩, period⟩ := ok
      cases h
      refine ⟨ht, ha, hg, control, act, period, rfl, rfl, rfl, rfl, rfl, rfl, rfl, rfl, rfl, rfl, rfl, rfl, rfl, rfl, ?_⟩
      cases trigger <;> rfl
    next => cases h
  next => cases h

theorem Describes.parseCue {p : List Byte} {c : Cue} (h : Describes p c) : parseCue p = some c := by
  obtain ⟨remaining, begun, fired, wait⟩ := h.fresh
  simp only [Machine.parseCue, h.trigger, h.action, h.guard, h.controlOk, h.actionOk, h.periodOk, Bool.and_true, if_true]
  simp only [← h.late, ← h.notifyFire, ← h.notifyEnd, ← h.retrigger, ← h.rearm, ← h.mask, ← h.width, ← h.occurrences,
    ← h.period, ← h.priority, ← h.tag]
  clear h
  cases c
  simp only at remaining begun fired wait
  subst remaining begun fired wait
  rfl

/-- R62 to R66: an acceptable cue is described by its bytes. -/
theorem describes_cueBytes {c : Cue} (acceptable : c.acceptable) (fresh : c.fresh) : Describes (cueBytes c) c := by
  obtain ⟨control, mask, width, period⟩ := acceptable
  have bit {i : Nat} (hi : i < 8) := controlByte_getLsbD c hi
  have fields : byteAt (cueBytes c) 7 = c.action.code ∧ halfAt (cueBytes c) 5 = c.mask ∧ triAt (cueBytes c) 8 = c.width ∧
      halfAt (cueBytes c) 11 = c.occurrences ∧ wordAt (cueBytes c) 13 = c.period ∧ halfAt (cueBytes c) 18 = c.tag := by
    unfold cueBytes
    cases c.trigger with
    | atTime due =>
      exact ⟨rfl, half_of_bytes _, tri_of_bytes _, half_of_bytes _, word_of_bytes _, half_of_bytes _⟩
    | hook line edge delay =>
      exact ⟨rfl, half_of_bytes _, tri_of_bytes _, half_of_bytes _, word_of_bytes _, half_of_bytes _⟩
  obtain ⟨hAction, hMask, hWidth, hOccurrences, hPeriod, hTag⟩ := fields
  refine
    { trigger := parseTrigger_cueBytes c
      action := by rw [hAction, action_ofCode_code]
      guard := by rw [cueBytes_guard, parseGuard_guardByte]
      controlOk := ?_, actionOk := ?_, periodOk := ?_, late := ?_
      notifyFire := (bit (i := 1) (by decide)).symm, notifyEnd := (bit (i := 2) (by decide)).symm
      retrigger := (bit (i := 3) (by decide)).symm, rearm := (bit (i := 4) (by decide)).symm
      mask := hMask.symm, width := ?_, occurrences := hOccurrences.symm, period := hPeriod.symm
      priority := (controlByte_priority c).symm, tag := hTag.symm, fresh := fresh }
  · rw [cueBytes_control, controlOk_iff, bit (by decide), bit (by decide), bit (by decide)]
    exact control
  · rw [hMask, hWidth, actionOk_iff]
    exact ⟨mask, fun pulse => by rwa [if_pos pulse] at width⟩
  · rw [hWidth, hOccurrences, hPeriod, periodOk_iff]
    exact period
  · rw [cueBytes_control, bit (by decide)]
    cases c.late <;> rfl
  · rw [hWidth]
    split
    next => rfl
    next plain => rwa [if_neg plain] at width

theorem Describes.isHook {p : List Byte} {c : Cue} (h : Describes p c) : (byteAt p 0).getLsbD 7 = c.isHook := by
  obtain ⟨-, bit⟩ := triggerBytes_of_parse h.trigger
  exact bit

theorem Describes.acceptable {p : List Byte} {c : Cue} (h : Describes p c) : c.acceptable := by
  obtain ⟨mask, width⟩ := (actionOk_iff ..).1 h.actionOk
  have control := (controlOk_iff _).1 h.controlOk
  have period := (periodOk_iff ..).1 h.periodOk
  rw [h.isHook, ← h.retrigger, ← h.rearm] at control
  rw [← h.mask] at mask
  rw [← h.occurrences, ← h.period] at period
  have used (pulse : c.action.pulse = true) : c.width = triAt p 8 := by rw [h.width, if_pos pulse]
  refine ⟨control, mask, ?_, fun series => ?_⟩
  · split
    next pulse => exact used pulse ▸ width pulse
    next plain => rw [h.width, if_neg plain]
  · obtain ⟨least, most, fits⟩ := period series
    exact ⟨least, most, fun pulse => used pulse ▸ fits pulse⟩

theorem Describes.controlByte {p : List Byte} {c : Cue} (h : Describes p c) : c.controlByte = byteAt p 0 := by
  have field {i : Nat} (hi : i < 2) : c.priority.val.testBit i = (byteAt p 0).getLsbD (5 + i) := by
    rw [h.priority, Fin.val_ofNat, Nat.mod_eq_of_lt ((byteAt p 0).extractLsb' 5 2).isLt, testBit_field _ 5 hi]
  refine byte_eq fun i hi => ?_
  rw [controlByte_getLsbD c hi]
  interval_cases i
  · rw [h.late]
    cases (byteAt p 0).getLsbD 0 <;> rfl
  · exact h.notifyFire
  · exact h.notifyEnd
  · exact h.retrigger
  · exact h.rearm
  · exact field (by decide)
  · exact field (by decide)
  · exact h.isHook.symm

/-- R80: the bytes of the cue that is read are the bytes that it is read from, a width that is not used apart. -/
theorem Describes.cueBytes {p : List Byte} {c : Cue} (h : Describes p c) :
    cueBytes c =
      [byteAt p 0] ++ [byteAt p 1, byteAt p 2, byteAt p 3, byteAt p 4] ++ [byteAt p 5, byteAt p 6] ++ [byteAt p 7] ++
        (if c.action.pulse = true then [byteAt p 8, byteAt p 9, byteAt p 10] else [0x00, 0x00, 0x00]) ++
        [byteAt p 11, byteAt p 12] ++ [byteAt p 13, byteAt p 14, byteAt p 15, byteAt p 16] ++ [byteAt p 17] ++
        [byteAt p 18, byteAt p 19] := by
  obtain ⟨triggered, -⟩ := triggerBytes_of_parse h.trigger
  have width : be24 c.width = if c.action.pulse = true then [byteAt p 8, byteAt p 9, byteAt p 10] else [0x00, 0x00, 0x00] := by
    rw [h.width]
    split
    · exact be24_append ..
    · rfl
  rw [Machine.cueBytes, h.controlByte, triggered, action_code_of_ofCode h.action, guardByte_of_parse h.guard, width, h.mask,
    h.occurrences, h.period, h.tag, halfAt, halfAt, halfAt, wordAt, be16_append, be16_append, be16_append, be32_append]

/-- Settles O19: a record describes a cue exactly when CUE.ADD reads it so. -/
theorem cueRecordsDecodeTheirEncoding : Obligations.CueRecordsDecodeTheirEncoding := by
  unfold Obligations.CueRecordsDecodeTheirEncoding
  refine ⟨fun c acceptable fresh => ⟨?_, (describes_cueBytes acceptable fresh).parseCue⟩, fun p c length parse => ?_⟩
  · rw [cueBytes]
    cases c.trigger <;> rfl
  · have described := describes_of_parseCue parse
    refine ⟨described.acceptable, described.fresh, ?_⟩
    rw [described.cueBytes]
    match p, length with
    | [_, _, _, _, _, _, _, _, _, _, _, _, _, _, _, _, _, _, _, _], _ =>
      split
      · rfl
      · rfl

end Sys2Proof.TheCueTable
end

section
/-! PROOFS. The late rule. -/

open Sys2Proof Sys2Proof.Machine Sys2Proof.TimebaseAndTicks Sys2Proof.TheCueTable

namespace Sys2Proof.CueFiring

/-! ## Consumed occurrences (R106, R110) -/

/-- R106: how many grid ticks follow a scheduled tick, up to the cutoff. -/
def passedOver (c : Cue) (now sched : Tick) : Nat := (cutoffOf c now - sched).toNat / c.period.toNat

theorem lateCutoff_eq (c : Cue) (now : Tick) : lateCutoff c now = cutoffOf c now := by
  unfold lateCutoff cutoffOf
  cases c.late <;> rfl

theorem limited_of_occurrences {c : Cue} (limited : c.occurrences ≠ 0) : c.limited = true := bne_iff_ne.2 limited

theorem not_limited_of_occurrences {c : Cue} (unlimited : c.occurrences = 0) : c.limited = false := by
  rw [Cue.limited, unlimited]
  rfl

theorem lateCount_of_goesOn {c : Cue} {sched now : Tick} (series : c.occurrences ≠ 1)
    (goesOn : c.occurrences ≠ 0 → passedOver c now sched + 1 < c.remaining.toNat) :
    lateCount c sched now false = passedOver c now sched + 1 := by
  simp only [lateCount, Bool.false_and, Bool.false_eq_true, if_false, if_neg series, lateCutoff_eq]
  change (if c.limited = true then min (passedOver c now sched + 1) c.remaining.toNat else passedOver c now sched + 1) = _
  split
  next limited => exact min_eq_left (goesOn (bne_iff_ne.1 limited)).le
  next => rfl

theorem lateCount_of_runsOut {c : Cue} {sched now : Tick} {saturated : Bool} (limited : c.occurrences ≠ 0)
    (single : c.occurrences = 1 → c.remaining = 1)
    (runsOut : saturated = true ∨ c.occurrences = 1 ∨ c.remaining.toNat ≤ passedOver c now sched + 1) :
    lateCount c sched now saturated = c.remaining.toNat := by
  simp only [lateCount, limited_of_occurrences limited, Bool.and_true, if_true, lateCutoff_eq]
  split
  next => rfl
  next counted =>
    split
    next one =>
      rw [single one]
      rfl
    next series => exact min_eq_right ((runsOut.resolve_left counted).resolve_left series)

/-- R110: saturation speaks of limited series only. -/
theorem lateRule_saturated_of_unlimited {n : Fin 48} {c : Cue} {s : State} (hc : s.cueAt n = some c)
    (unlimited : c.occurrences = 0) (saturated : Bool) : lateRule n saturated s = lateRule n false s := by
  simp only [lateRule, hc, lateFire, lateSkip, lateCount, not_limited_of_occurrences unlimited, Bool.and_false]

/-! ## Missed occurrences (R109) -/

theorem missOccurrences_eq (n : Fin 48) (c : Cue) (k : Nat) (s : State) :
    missOccurrences n c k s = missedReported n c k s := rfl

theorem missedReported_setCue (n : Fin 48) (c d : Cue) (k : Nat) (s : State) :
    missedReported n c k (s.setCue n d) = (missedReported n c k s).setCue n d := by
  rw [← missOccurrences_eq, missOccurrences_setCue, missedReported]
  split <;> rfl

theorem missedReported_missed (n : Fin 48) (c : Cue) (k : Nat) (s : State) :
    (missedReported n c k s).cues.missed = s.cues.missed + BitVec.ofNat 32 k := by
  unfold missedReported
  split
  next none =>
    rw [none]
    exact (BitVec.add_zero _).symm
  next => rfl

/-! ## A series that ends (R89) -/

/-- R89: a series ends alike whatever cue stands in its slot, which is discarded. -/
theorem seriesEnded_setCue (n : Fin 48) (c d : Cue) (cause : Byte) (s : State) :
    seriesEnded n c cause (s.setCue n d) = seriesEnded n c cause s := by
  have freed (u : State) : slotFreed n (u.setCue n d) = slotFreed n u := by
    rw [slotFreed_eq, slotFreed_eq]
    simp [freeSlot, unlist, State.setCue]
  have rearmed (u : State) (e : Cue) :
      ((u.setCue n d).setCues { (u.setCue n d).cues with due := u.cues.due.filter fun k => k != n }).setCue n e =
        (u.setCues { u.cues with due := u.cues.due.filter fun k => k != n }).setCue n e :=
    State.setCue_setCue (u.setCues { u.cues with due := u.cues.due.filter fun k => k != n }) n d e
  have handle : handleOf (s.setCue n d) n = handleOf s n := handleOf_congr (State.setCue_gen s n n d)
  simp only [seriesEnded, handle]
  split
  · split
    · exact rearmed (raise .seriesEnd (handleOf s n) c.tag _ s) _
    · exact rearmed s _
  · split
    · exact freed (raise .seriesEnd (handleOf s n) c.tag _ s)
    · exact freed s

/-! ## The results of the late rule (R107, R108) -/

/-- R107 to R109: the late rule on a cue of which `k` occurrences are missed and that goes on as `d`. -/
def wentOn (n : Fin 48) (c d : Cue) (k : Nat) (s : State) : LateResult :=
  { state := place n (missedReported n c k (s.setCue n d)), missed := k, ended := false }

theorem wentOn_cueAt (n : Fin 48) (c d : Cue) (k : Nat) (s : State) : (wentOn n c d k s).state.cueAt n = some d := by
  rw [wentOn, place_cueAt, missedReported_setCue, State.setCue_cueAt_same]

theorem wentOn_missed (n : Fin 48) (c d : Cue) (k : Nat) (s : State) :
    (wentOn n c d k s).state.cues.missed = s.cues.missed + BitVec.ofNat 32 k := by
  rw [wentOn, place_eq]
  exact missedReported_missed n c k (s.setCue n d)

theorem wentOn_notes (n : Fin 48) (c d : Cue) (k : Nat) (s : State) :
    (wentOn n c d k s).state.notes = (missedReported n c k s).notes := by
  rw [wentOn, place_notes, missedReported_setCue]
  rfl

/-- R107, R108: what remains of a series after `k` occurrences. -/
def leftAfter (c : Cue) (k : Nat) : Half := if c.occurrences = 0 then c.remaining else c.remaining - halfN k

theorem leftAfter_toNat {c : Cue} {k : Nat} (most : c.occurrences ≠ 0 → k ≤ c.remaining.toNat) :
    (leftAfter c k).toNat = c.remaining.toNat - if c.occurrences = 0 then 0 else k := by
  unfold leftAfter
  split
  next => rfl
  next limited => exact remaining_after (most limited)

theorem leftAfter_of_limited {c : Cue} (limited : c.occurrences ≠ 0) {k : Nat} (most : k ≤ c.remaining.toNat) {left : Half}
    (rest : left.toNat = c.remaining.toNat - k) : leftAfter c k = left := by
  refine BitVec.eq_of_toNat_eq ?_
  rw [leftAfter_toNat fun _ => most, if_neg limited, rest]

/-- R107: the cue that fires late, scheduled at a tick, `k` occurrences having been missed before. -/
def firesLate (c : Cue) (now stands : Tick) (k : Nat) : Cue :=
  { c with wait := .armed (now + 1) stands false, begun := c.begun || k != 0, remaining := leftAfter c k }

/-- R108: the cue that goes on at a grid tick after `k` missed occurrences. -/
def skipsTo (c : Cue) (next : Tick) (k : Nat) : Cue :=
  { c with wait := .armed next next false, begun := true, remaining := leftAfter c k }

theorem left_eq_leftAfter (c : Cue) (k : Nat) : (if c.limited then c.remaining - halfN k else c.remaining) = leftAfter c k := by
  simp only [leftAfter, Cue.limited, bne_iff_ne, ne_eq, ite_not]

section
variable {n : Fin 48} {c : Cue} {due sched : Tick} {overdue saturated : Bool} {s : State} {k : Nat}

theorem lateRule_eq_lateFire (hc : s.cueAt n = some c) (hw : c.wait = .armed due sched overdue) (fire : c.late = .fire) :
    lateRule n saturated s = lateFire n c sched saturated s := by
  simp only [lateRule, hc, hw, fire]

theorem lateRule_eq_lateSkip (hc : s.cueAt n = some c) (hw : c.wait = .armed due sched overdue) (skip : c.late = .skip) :
    lateRule n saturated s = lateSkip n c sched saturated s := by
  simp only [lateRule, hc, hw, skip]

theorem lateFire_wentOn (count : lateCount c sched s.time.tick saturated = k + 1) :
    lateFire n c sched saturated s = wentOn n c (firesLate c s.time.tick
      (if saturated && c.limited then s.time.tick + 1 else sched + BitVec.ofNat 32 k * c.period) k) k s := by
  simp only [lateFire, count, Nat.add_sub_cancel, left_eq_leftAfter]
  rfl

theorem lateSkip_wentOn (count : lateCount c sched s.time.tick saturated = k)
    (goesOn : c.occurrences ≠ 0 → k < c.remaining.toNat) :
    lateSkip n c sched saturated s = wentOn n c (skipsTo c (sched + BitVec.ofNat 32 k * c.period) k) k s := by
  have some : (c.limited && leftAfter c k == 0) = false := by
    refine Bool.and_eq_false_imp.2 fun limited => beq_eq_false_iff_ne.2 fun zero => ?_
    have limited : c.occurrences ≠ 0 := bne_iff_ne.1 limited
    have left := leftAfter_toNat (c := c) fun series => (goesOn series).le
    rw [zero, if_neg limited] at left
    exact Nat.sub_ne_zero_of_lt (goesOn limited) left.symm
  simp only [lateSkip, count, left_eq_leftAfter, some, Bool.false_eq_true, if_false]
  rfl

/-- R108: the last occurrence of a series is missed. -/
theorem lateSkip_ended (limited : c.occurrences ≠ 0) (count : lateCount c sched s.time.tick saturated = c.remaining.toNat) :
    lateSkip n c sched saturated s =
      { state := seriesEnded n { c with begun := true, remaining := 0 } 0x02
          (missedReported n c c.remaining.toNat (s.setCue n { c with begun := true, remaining := 0 }))
        missed := c.remaining.toNat
        ended := true } := by
  have left : leftAfter c c.remaining.toNat = 0 := leftAfter_of_limited limited le_rfl (Nat.sub_self _).symm
  have none : (c.limited && leftAfter c c.remaining.toNat == 0) = true := by rw [limited_of_occurrences limited, left]; rfl
  have ends (d : Cue) : endSeries n 2 (missOccurrences n c c.remaining.toNat (s.setCue n d)) =
      seriesEnded n d 0x02 (missedReported n c c.remaining.toNat s) := by
    rw [missOccurrences_eq, missedReported_setCue, endSeries_of_cue (State.setCue_cueAt_same ..) (by decide),
      seriesEnded_setCue]
    rfl
  simp only [lateSkip, count, left_eq_leftAfter, none, if_true, ends]
  rw [missedReported_setCue, seriesEnded_setCue, left]
  rfl

end

/-! ## Grid ticks (R106) -/

/-- The distance from a tick to a further one, by their distances from an origin. -/
theorem distance_of_distances {origin near far : Tick} (le : (near - origin).toNat ≤ (far - origin).toNat) :
    (far - near).toNat = (far - origin).toNat - (near - origin).toNat := by
  rw [← sub_sub_sub_cancel_right far near origin, BitVec.toNat_sub_of_le le]

/-- A grid tick before the tick count has come round. -/
theorem distance_of_grid (sched period : Tick) {k : Nat} (turn : k * period.toNat < 2 ^ 32) :
    (sched + BitVec.ofNat 32 k * period - sched).toNat = k * period.toNat := by
  rw [add_sub_cancel_left, BitVec.toNat_mul, BitVec.toNat_ofNat, Nat.mod_mul_mod, Nat.mod_eq_of_lt turn]

/-- R106: the last grid tick up to the cutoff is less than a period before it. -/
theorem passedOver_bounds (c : Cue) (now sched : Tick) (period : 2 ≤ c.period.toNat) :
    passedOver c now sched * c.period.toNat ≤ (cutoffOf c now - sched).toNat ∧
      (cutoffOf c now - sched).toNat < passedOver c now sched * c.period.toNat + c.period.toNat :=
  ⟨Nat.div_mul_le_self .., Nat.lt_div_mul_add (by omega)⟩

section
variable {n : Fin 48} {c : Cue} {due sched : Tick} {overdue : Bool} {s : State}

/-- R107: the late rule under LATE_FIRE on a cue whose occurrences do not run out. -/
theorem lateRule_fire_goesOn (hc : s.cueAt n = some c) (hw : c.wait = .armed due sched overdue) (fire : c.late = .fire)
    (series : c.occurrences ≠ 1) (goesOn : c.occurrences ≠ 0 → passedOver c s.time.tick sched + 1 < c.remaining.toNat) :
    lateRule n false s = wentOn n c (firesLate c s.time.tick
      (sched + BitVec.ofNat 32 (passedOver c s.time.tick sched) * c.period) (passedOver c s.time.tick sched))
      (passedOver c s.time.tick sched) s := by
  rw [lateRule_eq_lateFire hc hw fire, lateFire_wentOn (lateCount_of_goesOn series goesOn)]
  rfl

/-- R108: the late rule under LATE_SKIP on a cue whose occurrences do not run out. -/
theorem lateRule_skip_goesOn (hc : s.cueAt n = some c) (hw : c.wait = .armed due sched overdue) (skip : c.late = .skip)
    (series : c.occurrences ≠ 1) (goesOn : c.occurrences ≠ 0 → passedOver c s.time.tick sched + 1 < c.remaining.toNat) :
    lateRule n false s = wentOn n c (skipsTo c
      (sched + BitVec.ofNat 32 (passedOver c s.time.tick sched + 1) * c.period) (passedOver c s.time.tick sched + 1))
      (passedOver c s.time.tick sched + 1) s := by
  rw [lateRule_eq_lateSkip hc hw skip, lateSkip_wentOn (lateCount_of_goesOn series goesOn) goesOn]

/-- R107: the cue of a limited series whose last occurrence fires late. -/
theorem firesLate_last (limited : c.occurrences ≠ 0) (some : 1 ≤ c.remaining.toNat) (now stands : Tick) :
    firesLate c now stands (c.remaining.toNat - 1) =
      { c with wait := .armed (now + 1) stands false, begun := c.begun || c.remaining.toNat - 1 != 0, remaining := 1 } := by
  have left : leftAfter c (c.remaining.toNat - 1) = 1 :=
    leftAfter_of_limited limited (Nat.sub_le ..) (Nat.sub_sub_self some).symm
  rw [firesLate, left]

end

/-- Settles O22: a cue that goes on, a series that runs out, each under either policy, and an unlimited series. -/
theorem lateRuleKeepsTheGrid : Obligations.LateRuleKeepsTheGrid := by
  unfold Obligations.LateRuleKeepsTheGrid
  intro n c due sched overdue s hc hw
  refine ⟨fun series period turn goesOn => ?_, fun saturated limited some single runsOut => ?_,
    fun unlimited => lateRule_saturated_of_unlimited hc unlimited true⟩
  · obtain ⟨reached, within⟩ := passedOver_bounds c s.time.tick sched period
    cases policy : c.late with
    | fire =>
      have grid := distance_of_grid sched c.period (reached.trans_lt (by omega))
      dsimp only
      rw [lateRule_fire_goesOn hc hw policy series goesOn]
      refine ⟨_, _, _, wentOn_cueAt .., rfl, rfl, grid.symm, leftAfter_toNat fun limited => ?_, wentOn_missed ..,
        wentOn_notes .., rfl, ?_⟩
      · exact (Nat.le_succ _).trans (goesOn limited).le
      · rw [distance_of_distances (grid.trans_le reached), grid]
        omega
    | skip =>
      have now : cutoffOf c s.time.tick = s.time.tick := by rw [cutoffOf, policy]
      have next : (passedOver c s.time.tick sched + 1) * c.period.toNat =
          passedOver c s.time.tick sched * c.period.toNat + c.period.toNat := Nat.succ_mul ..
      have grid := distance_of_grid sched c.period (k := passedOver c s.time.tick sched + 1) (by omega)
      rw [now] at reached within
      have ahead := distance_of_distances (within.le.trans (grid.trans next).ge)
      rw [grid, next] at ahead
      dsimp only
      rw [lateRule_skip_goesOn hc hw policy series goesOn]
      refine ⟨_, _, _, wentOn_cueAt .., rfl, rfl, grid.symm, leftAfter_toNat fun limited => (goesOn limited).le,
        wentOn_missed .., wentOn_notes .., rfl, ?_, ?_⟩
      · omega
      · omega
  · have count : lateCount c sched s.time.tick saturated = c.remaining.toNat := lateCount_of_runsOut limited single runsOut
    dsimp only
    split
    next skip =>
      rw [lateRule_eq_lateSkip hc hw skip, lateSkip_ended limited count]
      exact ⟨rfl, rfl, rfl⟩
    next fire =>
      rw [lateRule_eq_lateFire hc hw fire, lateFire_wentOn (count.trans (Nat.sub_add_cancel some).symm),
        firesLate_last limited some, limited_of_occurrences limited, Bool.and_true]
      exact ⟨rfl, rfl, rfl⟩

end Sys2Proof.CueFiring
end

section
/-! PROOFS. CUE.FREEZE and CUE.THAW. -/

open Sys2Proof Sys2Proof.Machine Sys2Proof.TimebaseAndTicks

namespace Sys2Proof.CueFiring

/-! ## The late rule on the overdue cues (R105) -/

/-- R105: the late rule on one overdue cue, counting series ended and occurrences missed. -/
def thawedOne (saturated : Bool) (acc : Nat × Nat × State) (n : Fin 48) : Nat × Nat × State :=
  let r := lateRule n saturated acc.2.2
  (acc.1 + r.ended.toNat, acc.2.1 + r.missed, r.state)

/-- R105: the late rule on some cues in order: how many series ended, how many occurrences were missed, and the state. -/
def thawed (saturated : Bool) (slots : List (Fin 48)) (s : State) : Nat × Nat × State :=
  slots.foldl (thawedOne saturated) (0, 0, s)

/-- Every cue of a thaw is handled. -/
theorem foldl_thawOne (saturated : Bool) (slots : List (Fin 48)) (t : ThawTally) :
    slots.foldl (thawOne saturated) t =
      { handled := t.handled + slots.length
        ended := (slots.foldl (thawedOne saturated) (t.ended, t.missed, t.state)).1
        missed := (slots.foldl (thawedOne saturated) (t.ended, t.missed, t.state)).2.1
        state := (slots.foldl (thawedOne saturated) (t.ended, t.missed, t.state)).2.2 } := by
  induction slots generalizing t with
  | nil => rfl
  | cons n slots ih =>
    rw [List.foldl_cons, ih, List.length_cons, Nat.add_comm slots.length, ← Nat.add_assoc]
    rfl

theorem thaw_eq (s : State) :
    let r := thawed (decide (2 ^ 30 ≤ s.cues.frozenDur)) (overdueSlots s) (s.setCues { s.cues with frozen := false })
    thaw s = { handled := (overdueSlots s).length, ended := r.1, missed := r.2.1, state := r.2.2 } := by
  rw [thaw, foldl_thawOne, Nat.zero_add]
  rfl

theorem foldl_thawedOne_keeps (saturated : Bool) (slots : List (Fin 48)) (acc : Nat × Nat × State) :
    (slots.foldl (thawedOne saturated) acc).2.2.sys = acc.2.2.sys ∧
      (slots.foldl (thawedOne saturated) acc).2.2.pins = acc.2.2.pins := by
  induction slots generalizing acc with
  | nil => exact ⟨rfl, rfl⟩
  | cons n slots ih =>
    obtain ⟨sys, pins⟩ := ih (thawedOne saturated acc n)
    exact ⟨sys.trans (lateRule_sys ..), pins.trans (lateRule_pins ..)⟩

theorem thawed_keeps (saturated : Bool) (slots : List (Fin 48)) (s : State) :
    (thawed saturated slots s).2.2.sys = s.sys ∧ (thawed saturated slots s).2.2.pins = s.pins :=
  foldl_thawedOne_keeps saturated slots (0, 0, s)

/-- R105: the slot holds a cue with the overdue mark. -/
def isOverdue (s : State) (n : Fin 48) : Bool :=
  match s.cueAt n with
  | none => false
  | some c => c.overdue

theorem overdueSlots_met (pins : InPins) (s : State) : overdueSlots (met pins s) = s.cues.due.filter (isOverdue s) := by
  refine List.filter_congr fun n _ => ?_
  change ((s.cueAt n).map Cue.overdue).getD false = isOverdue s n
  unfold isOverdue
  cases s.cueAt n <;> rfl

/-! ## The commands (R104, R105) -/

/-- R104: CUE.FREEZE without parameters. -/
theorem serve_freeze {f : Frame} {s : State} (served : Served f s) (params : f.params = []) :
    serveCommand (plain cmdCueFreeze) f s =
      if s.cues.frozen = true then refusedWith f .state s
      else granted f [] ((met f.pins s).setCues { s.cues with frozen := true, frozenDur := 0 }) := by
  split
  next frozen => exact serveCommand_fail served (by rw [params]; exact if_pos frozen) (by decide)
  next going => exact serveCommand_done served (by rw [params]; exact if_neg going) (served_softPending served) rfl

/-- R105: CUE.THAW without parameters. -/
theorem serve_thaw {f : Frame} {s : State} (served : Served f s) (params : f.params = []) :
    let slots := s.cues.due.filter (isOverdue s)
    let r := thawed (decide (2 ^ 30 ≤ s.cues.frozenDur)) slots ((met f.pins s).setCues { s.cues with frozen := false })
    serveCommand (plain cmdCueThaw) f s =
      if s.cues.frozen = false then refusedWith f .state s
      else granted f
        (be32 (BitVec.ofNat 32 s.cues.frozenDur) ++ [byteN slots.length, byteN r.1] ++ be16 (satHalf r.2.1)) r.2.2 := by
  intro slots r
  have body : cmdCueThaw [] (met f.pins s) =
      if !s.cues.frozen then fail .state (met f.pins s)
      else done
        (be32 (BitVec.ofNat 32 s.cues.frozenDur) ++ [byteN slots.length, byteN r.1] ++ be16 (satHalf r.2.1)) r.2.2 := by
    rw [cmdCueThaw, thaw_eq, overdueSlots_met]
    rfl
  simp only [Bool.not_eq_true'] at body
  split
  next going => exact serveCommand_fail served (by rw [params, body, if_pos going]) (by decide)
  next frozen =>
    obtain ⟨sys, pins⟩ := thawed_keeps (decide (2 ^ 30 ≤ s.cues.frozenDur)) slots
      ((met f.pins s).setCues { s.cues with frozen := false })
    refine serveCommand_done served (by rw [params, body, if_neg frozen]) ?_ ?_
    · exact (congrArg SysCtl.softPending sys).trans (served_softPending served)
    · exact congrArg Pins.inputs pins

/-- Settles O26: each command without parameters, and refused with some. -/
theorem freezeAndThaw : Obligations.FreezeAndThaw := by
  unfold Obligations.FreezeAndThaw
  intro f s served
  refine ⟨congrArg Host.Outcome.next ?_, congrArg Host.Outcome.next ?_⟩
  · cases params : f.params with
    | cons b rest => exact serveCommand_fail served (by rw [params]; rfl) (by decide)
    | nil =>
      rw [if_neg (not_not_intro rfl)]
      exact serve_freeze served params
  · cases params : f.params with
    | cons b rest => exact serveCommand_fail served (by rw [params]; rfl) (by decide)
    | nil =>
      rw [if_neg (not_not_intro rfl)]
      exact serve_thaw served params

end Sys2Proof.CueFiring
end

section
/-! PROOFS. Samples, filtered levels and qualified edges. -/

open Sys2Proof Sys2Proof.Machine Sys2Proof.TimebaseAndTicks

namespace Sys2Proof.InputLinesAndTheEdgeLog

/-! ## What samples a line, and what does not (R112, R113) -/

@[simp] theorem hookSlot_edges (line : Fin 8) (rising : Bool) (s : State) (n : Fin 48) :
    (hookSlot line rising s n).edges = s.edges := by
  unfold hookSlot
  repeat' split
  all_goals simp [State.setCue]

/-- R102: the hook set arms cues alone. -/
@[simp] theorem hookEdge_edges (line : Fin 8) (rising : Bool) (s : State) : (hookEdge line rising s).edges = s.edges :=
  foldl_keeps (g := State.edges) (hookSlot_edges line rising) _ s

/-- R116 to R120: the edge log takes a record or a loss, and leaves the lines. -/
@[simp] theorem edgeLogged_lines (line : Fin 8) (rising : Bool) (s : State) :
    (edgeLogged line rising s).edges.lines = s.edges.lines := by
  simp only [edgeLogged]
  split
  next => rfl
  split
  next => split <;> rfl
  next => cases s.edges.policy <;> rfl

/-- R112: the edge stage meets one line in its sample, and no other. -/
theorem lineServed_lines (s : State) (n : Fin 8) :
    (lineServed s n).edges.lines =
      s.edges.lines.set n.val (lineSampled (s.pins.inputs.ins.getLsbD n.val) s.edges.lines[n]) n.isLt := by
  simp only [lineServed]
  split
  all_goals simp

theorem lineServed_line (s : State) (n i : Fin 8) :
    (lineServed s n).edges.lines[i] =
      if i = n then lineSampled (s.pins.inputs.ins.getLsbD i.val) s.edges.lines[i] else s.edges.lines[i] := by
  simp only [lineServed_lines, Fin.getElem_fin, Vector.getElem_set]
  by_cases same : i = n
  · subst same
    simp
  · rw [if_neg (fun e => same (Fin.ext e.symm)), if_neg same]

theorem lineServed_pins (s : State) (n : Fin 8) : (lineServed s n).pins = s.pins := by
  rw [← sampleLine_eq]
  have kept := congrArg State.pins (unticked_sampleLine s n)
  exact kept

/-- R112: each line of a list without repetition is sampled once, and no other line is. -/
theorem foldl_lineServed_line (ns : List (Fin 8)) (once : ns.Nodup) (s : State) (i : Fin 8) :
    (ns.foldl lineServed s).edges.lines[i] =
      if i ∈ ns then lineSampled (s.pins.inputs.ins.getLsbD i.val) s.edges.lines[i] else s.edges.lines[i] := by
  induction ns generalizing s with
  | nil => rfl
  | cons n ns ih =>
    obtain ⟨fresh, rest⟩ := List.nodup_cons.1 once
    rw [List.foldl_cons, ih rest, lineServed_line, lineServed_pins]
    by_cases first : i = n
    · subst first
      simp [fresh]
    · simp [first]

/-! ## The later stages of a tick -/

@[simp] theorem markOverdue_edges (n : Fin 48) (s : State) : (markOverdue n s).edges = s.edges := by
  unfold markOverdue
  repeat' split
  all_goals rfl

theorem leadingActions_edges (leads : List (Fin 48)) (p : State × Led) :
    (leads.foldl (fun p n => leadingAction n p) p).1.edges = p.1.edges := by
  induction leads generalizing p with
  | nil => rfl
  | cons n leads ih => rw [List.foldl_cons, ih, leadingAction_edges]

theorem reportConflict_edges (led : Led) (s : State) : (reportConflict led s).edges = s.edges := by
  unfold reportConflict
  split <;> rfl

/-- R36: stage 3 leaves the edge unit alone. -/
theorem cueStage_edges (s : State) : (cueStage s).edges = s.edges := by
  unfold cueStage
  rw [reportConflict_edges, leadingActions_edges,
    foldl_keeps (f := fun s n => trailingEdge n s) (g := State.edges) fun s n => trailingEdge_edges n s,
    foldl_keeps (f := fun s n => markOverdue n s) (g := State.edges) fun s n => markOverdue_edges n s]

theorem applyStep_edges (s : State) (x : ProgramStep) : (applyStep s x).edges = s.edges := by
  rw [applyStep, driveAndCut, cutBy_edges, State.setChans_edges]

theorem advance_edges (s : State) : (advance s).edges = s.edges := by
  unfold advance cycleEnd
  repeat' split
  all_goals rfl

/-- R36: stage 4 leaves the edge unit alone. -/
theorem standStage_edges (s : State) : (standStage s).edges = s.edges := by
  unfold standStage
  repeat' split
  next => rfl
  next => rw [advance_edges, foldl_keeps (g := State.edges) applyStep_edges]
  next => rfl

/-- Settles O41: stage 2 samples the lines 0 to 7, each once, and no other stage touches them. -/
theorem everyTickSamplesEveryLine : Obligations.EveryTickSamplesEveryLine := by
  unfold Obligations.EveryTickSamplesEveryLine
  intro pins s t ticking quiet ran i
  have stages := (ticksRunTheirStagesInOrder pins s).2 fun reset => Bool.false_ne_true (quiet.symm.trans reset.1)
  rw [if_pos ticking, ran] at stages
  cases stages
  rw [settle_edges, standStage_edges, cueStage_edges, foldl_lineServed_line _ (List.nodup_finRange 8),
    if_pos (List.mem_finRange i)]
  rfl

/-! ## A qualified edge as a row (R113, R114) -/

/-- R113: the edge that a line's run makes, in the words of the statements. -/
theorem edge_eq_edgeOf (l : Line) : l.edge = edgeOf l := by
  unfold Line.edge edgeOf
  cases l.filtered <;> rcases l.runValue with _ | _ | _ <;> simp

/-- R114: the filtered level, then the log, then the hook set. -/
theorem qualifyEdge_eq {n : Fin 8} {s : State} {rising : Bool} (edge : edgeOf s.edges.lines[n] = some rising) :
    qualifyEdge n s = hookEdge n rising (edgeLogged n rising (s.setEdges { s.edges with
      lines := s.edges.lines.set n.val
        { s.edges.lines[n] with filtered := if rising = true then .high else .low } n.isLt })) := by
  simp only [qualifyEdge, edge_eq_edgeOf, edge, logEdge_eq, State.setLine]

/-- A step of a tick that is due, as a row (log 5). -/
theorem inTick_due (effect : State → State) (s : State) :
    inTick true effect s = if Ticking s then settle (effect s) else s := by
  unfold inTick occur
  exact if_congr (by simp) rfl rfl

/-- Settles O42: nothing when the line's run makes no edge; otherwise the effect of the edge while ticks are processed. -/
theorem qualifiedEdgesReachLogAndHooks : Obligations.QualifiedEdgesReachLogAndHooks := by
  unfold Obligations.QualifiedEdgesReachLogAndHooks
  intro line s
  refine congrArg Host.Outcome.next (show inTick s.edges.lines[line].edge.isSome (qualifyEdge line) s = _ from ?_)
  rw [edge_eq_edgeOf]
  split
  next still =>
    rw [still]
    exact if_neg (by simp)
  next rising edge => rw [← qualifyEdge_eq edge, edge, Option.isSome_some, inTick_due]

end Sys2Proof.InputLinesAndTheEdgeLog
end

section
/-! PROOFS. EDGE.SETUP, EDGE.POLICY, EDGE.READ and EDGE.FLUSH. -/

open Sys2Proof Sys2Proof.Machine Sys2Proof.TimebaseAndTicks

namespace Sys2Proof.InputLinesAndTheEdgeLog

/-! ## The codes of parameter bytes, and the bytes of a record (R115, R121, R122) -/

theorem selection_ofCode (b : Byte) :
    Selection.ofCode b =
      if 3 < b.toNat then none
      else some (if b = 0 then .none else if b = 1 then .rising else if b = 2 then .falling else .either) := by
  unfold Selection.ofCode
  by_cases known : b = 0 ∨ b = 1 ∨ b = 2 ∨ b = 3
  · rcases known with rfl | rfl | rfl | rfl <;> rfl
  · obtain ⟨h0, h1, h2, h3⟩ : b ≠ 0 ∧ b ≠ 1 ∧ b ≠ 2 ∧ b ≠ 3 := by simpa using known
    rw [if_neg h0, if_neg h1, if_neg h2, if_neg h3, if_pos (by bv_omega)]

theorem fullPolicy_ofCode (b : Byte) :
    FullPolicy.ofCode b = if 1 < b.toNat then none else some (if b = 0 then .keepOldest else .keepNewest) := by
  unfold FullPolicy.ofCode
  by_cases known : b = 0 ∨ b = 1
  · rcases known with rfl | rfl <;> rfl
  · obtain ⟨h0, h1⟩ := not_or.1 known
    rw [if_neg h0, if_neg h1, if_pos (by bv_omega)]

/-- Table 6-3: the third byte of a record, bit by bit. -/
theorem recordMarks_eq (gap rising : Bool) (line : Fin 8) :
    byteN (128 * gap.toNat + 8 * rising.toNat + line.val) =
      packBits [gap, false, false, false, rising, line.val.testBit 2, line.val.testBit 1, line.val.testBit 0] := by
  revert gap rising line
  decide

/-! ## What the edge unit answers -/

theorem cmdEdgeSetup_eq (b0 b1 b2 : Byte) (s : State) :
    cmdEdgeSetup [b0, b1, b2] s =
      if h : b0.toNat < 8 then
        if b1.toNat < 1 ∨ 8 < b1.toNat ∨ 3 < b2.toNat then fail .param s
        else done [] (s.setLine ⟨b0.toNat, h⟩
          { length := b1.toNat
            select := if b2 = 0 then .none else if b2 = 1 then .rising else if b2 = 2 then .falling else .either
            filtered := .unsettled, runValue := none, runCount := 0 })
      else fail .param s := by
  simp only [cmdEdgeSetup, selection_ofCode]
  split
  next =>
    by_cases high : 3 < b2.toNat
    · rw [if_pos high, if_pos (.inr (.inr high))]
    · rw [if_neg high]
      by_cases length : 1 ≤ b1.toNat ∧ b1.toNat ≤ 8
      · exact (if_pos length).trans (if_neg (by omega)).symm
      · exact (if_neg length).trans (if_pos (by omega)).symm
  next => rfl

theorem cmdEdgePolicy_eq (b0 b1 : Byte) (s : State) :
    cmdEdgePolicy [b0, b1] s =
      if 1 < b0.toNat ∨ b1.toNat < 1 ∨ 64 < b1.toNat then fail .param s
      else done [] (s.setEdges { s.edges with
        policy := if b0 = 0 then .keepOldest else .keepNewest, threshold := b1.toNat }) := by
  simp only [cmdEdgePolicy, fullPolicy_ofCode]
  by_cases high : 1 < b0.toNat
  · rw [if_pos high, if_pos (.inl high)]
  · rw [if_neg high]
    by_cases threshold : 1 ≤ b1.toNat ∧ b1.toNat ≤ 64
    · exact (if_pos threshold).trans (if_neg (by omega)).symm
    · exact (if_neg threshold).trans (if_pos (by omega)).symm

theorem cmdEdgeRead_eq (n : Byte) (s : State) :
    cmdEdgeRead [n] s =
      if n.toNat < 1 ∨ 3 < n.toNat then fail .param s
      else done
        ([byteN (min n.toNat s.edges.log.length), byteN (s.edges.log.length - n.toNat)] ++
          (s.edges.log.take n.toNat).flatMap fun r =>
            be16 r.seq ++ [packBits [r.gap, false, false, false, r.rising, r.line.val.testBit 2,
              r.line.val.testBit 1, r.line.val.testBit 0]] ++ be32 r.stamp)
        (s.setEdges { s.edges with log := s.edges.log.drop n.toNat }) := by
  simp only [← recordMarks_eq, ← List.length_take, ← List.length_drop]
  by_cases count : 1 ≤ n.toNat ∧ n.toNat ≤ 3
  · exact (if_pos count).trans (if_neg (by omega)).symm
  · exact (if_neg count).trans (if_pos (by omega)).symm

/-! ## The four commands served -/

section
variable {f : Frame} {s : State} (h : Served f s)
include h

/-- A command of group EDGE that is answered OK sets nothing but the edge unit. -/
theorem serveCommand_setsEdges {body : List Byte → State → Reply} {payload : List Byte} {x : EdgeUnit}
    (reply : body f.params (met f.pins s) = done payload ((met f.pins s).setEdges x)) :
    serveCommand (plain body) f s = granted f payload ((met f.pins s).setEdges x) :=
  serveCommand_done h reply (served_softPending h) rfl

/-- A command of group EDGE that checks the values of its parameters. -/
theorem serveCommand_checks {body : List Byte → State → Reply} {bad : Prop} [Decidable bad] {payload : List Byte}
    {x : EdgeUnit}
    (reply : body f.params (met f.pins s) =
      if bad then fail .param (met f.pins s) else done payload ((met f.pins s).setEdges x)) :
    serveCommand (plain body) f s =
      if bad then refusedWith f .param s else granted f payload ((met f.pins s).setEdges x) := by
  split
  next refused => exact serveCommand_fail h (reply.trans (if_pos refused)) (by decide)
  next taken => exact serveCommand_setsEdges h (reply.trans (if_neg taken))

end

/-- Settles O29: the reply of each command on the state that the frame met. -/
theorem edgeCommandsSetAndDrainTheLog : Obligations.EdgeCommandsSetAndDrainTheLog := by
  unfold Obligations.EdgeCommandsSetAndDrainTheLog
  intro f s h
  refine ⟨congrArg Host.Outcome.next (show serveCommand (plain cmdEdgeSetup) f s = _ from ?_),
    congrArg Host.Outcome.next (show serveCommand (plain cmdEdgePolicy) f s = _ from ?_),
    congrArg Host.Outcome.next (show serveCommand (plain cmdEdgeRead) f s = _ from ?_),
    congrArg Host.Outcome.next (show serveCommand (plain cmdEdgeFlush) f s = _ from ?_)⟩
  · split
    next b0 b1 b2 params =>
      have reply := (congrArg (cmdEdgeSetup · (met f.pins s)) params).trans (cmdEdgeSetup_eq b0 b1 b2 _)
      split
      next line => exact serveCommand_checks h (reply.trans (dif_pos line))
      next line => exact serveCommand_fail h (reply.trans (dif_neg line)) (by decide)
    next other => exact serveCommand_fail h (cmdEdgeSetup.eq_2 _ _ other) (by decide)
  · split
    next b0 b1 params =>
      exact serveCommand_checks h ((congrArg (cmdEdgePolicy · _) params).trans (cmdEdgePolicy_eq b0 b1 _))
    next other => exact serveCommand_fail h (cmdEdgePolicy.eq_2 _ _ other) (by decide)
  · split
    next n params => exact serveCommand_checks h ((congrArg (cmdEdgeRead · _) params).trans (cmdEdgeRead_eq n _))
    next other => exact serveCommand_fail h (cmdEdgeRead.eq_2 _ _ other) (by decide)
  · cases params : f.params with
    | cons b rest => exact serveCommand_fail h (by rw [params]; rfl) (by decide)
    | nil =>
      rw [if_neg (not_not_intro rfl)]
      exact serveCommand_setsEdges h (by rw [params]; rfl)

end Sys2Proof.InputLinesAndTheEdgeLog
end

section
/-! PROOFS. The status reports of the blocks. -/

open Sys2Proof Sys2Proof.Machine Sys2Proof.TimebaseAndTicks Sys2Proof.OutputChannels

namespace Sys2Proof.InputLinesAndTheEdgeLog

/-! ## Bits and numbers in a payload -/

/-- A byte that is packed from a list has its last yes/no in bit 0. -/
theorem bits_packBits (bits : List Bool) : Bits (packBits bits) bits.reverse :=
  fun i => TheCueTable.packBits_getLsbD bits i.isLt

/-- A number in three bytes, most significant byte first. -/
theorem be24_ofNat (n : Nat) : be24 (BitVec.ofNat 24 n) = [byteN (n / 65536), byteN (n / 256), byteN n] := by
  have byte (start : Nat) (low : start + 8 ≤ 24) : (BitVec.ofNat 24 n).extractLsb' start 8 = byteN (n / 2 ^ start) := by
    apply BitVec.eq_of_getLsbD_eq
    intro i hi
    rw [BitVec.getLsbD_extractLsb', BitVec.getLsbD_ofNat, byteN, BitVec.getLsbD_ofNat, Nat.testBit_div_two_pow,
      decide_eq_true hi, decide_eq_true (by omega : start + i < 24), Bool.true_and, Bool.true_and, Bool.true_and, Nat.add_comm]
  rw [be24, byte 16 (by decide), byte 8 (by decide), byte 0 (by decide)]
  simp

theorem FiltLevel.code_lt (l : FiltLevel) : l.code < 4 := by cases l <;> decide

/-- Table 6-4: eight two-bit codes, each at its place. -/
theorem filteredField_extract (u : EdgeUnit) (i : Fin 8) :
    (filteredField u).extractLsb' (2 * i.val) 2 = BitVec.ofNat 2 u.lines[i].filtered.code := by
  have small (j : Fin 8) : u.lines[j].filtered.code < 4 := FiltLevel.code_lt _
  have bound : Nat.ofDigits 4 (List.ofFn fun j : Fin 8 => u.lines[j].filtered.code) < 2 ^ 16 :=
    (ofDigits_lt small (by decide)).trans_eq (by norm_num)
  apply BitVec.eq_of_toNat_eq
  rw [filteredField, halfN, foldl_places_eq_ofDigits 4 fun j : Fin 8 => u.lines[j].filtered.code,
    BitVec.extractLsb'_toNat, BitVec.toNat_ofNat, BitVec.toNat_ofNat, Nat.mod_eq_of_lt bound, Nat.shiftRight_eq_div_pow,
    pow_mul]
  exact (ofDigits_digit small i).trans (Nat.mod_eq_of_lt (small i)).symm

/-! ## Fields that may be absent, in the words of the statements (Tables 7-4, 9-2 and 10-6) -/

theorem oldestSeq_eq (lane : List Notice) : oldestSeq lane = match lane with | [] => 0 | n :: _ => n.seq := by
  cases lane <;> rfl

theorem imageBrief_eq (image : Option Image) : imageBrief image = imageFields image := by
  cases image <;> rfl

theorem activeFields_eq (image : Option Image) : activeFields image = programFields image := by
  cases image with
  | none => rfl
  | some x => rw [programFields, be24_ofNat]; rfl

theorem engineFields_eq (e : Engine) : engineFields e = operationFields e := by
  cases e <;> rfl

/-! ## The reports -/

/-- Settles O13: each of the six reports is its command's reply on the state that the frame met. -/
theorem statusCommandsReportTheirBlocks : Obligations.StatusCommandsReportTheirBlocks := by
  unfold Obligations.StatusCommandsReportTheirBlocks
  intro f s h
  refine ⟨?_, ⟨filteredField s.edges, filteredField_extract s.edges, ?_⟩, ⟨_, bits_packBits [_, _, _], ?_⟩,
    ⟨_, _, bits_packBits [_, _, _, _, _, _, _], bits_packBits [_, _], ?_⟩,
    ⟨_, _, bits_packBits [_, _, _, _], bits_packBits [_, _, _], ?_⟩,
    ⟨_, _, bits_packBits [_, _, _], bits_packBits [_, _], ?_⟩⟩
  · exact reads_of_body (body := cmdSysIdentify) h rfl rfl fun _ _ => rfl
  · exact reads_of_body (body := cmdEdgeStatus) h rfl rfl fun _ _ => rfl
  · refine reads_of_body (body := cmdNoteStatus) h rfl ?_ fun _ _ => rfl
    simp only [cmdNoteStatus, oldestSeq_eq]
    rfl
  · refine reads_of_body (body := cmdWardStatus) h rfl ?_ fun _ _ => rfl
    simp only [cmdWardStatus, wardenCode_eq]
    rfl
  · refine reads_of_body (body := cmdStandStatus) h rfl ?_ fun _ _ => rfl
    simp only [cmdStandStatus, imageBrief_eq, activeFields_eq, be24_ofNat]
    rfl
  · refine reads_of_body (body := cmdStoreStatus) h rfl ?_ fun _ _ => rfl
    simp only [cmdStoreStatus, engineFields_eq]
    rfl

end Sys2Proof.InputLinesAndTheEdgeLog
end

section
/-! PROOFS. NOTE.FIRST, NOTE.NEXT, NOTE.ENABLE and SYS.UNSTICK. -/

open Sys2Proof Sys2Proof.Machine Sys2Proof.TimebaseAndTicks

namespace Sys2Proof.NoticesAndTheAttentionLine

/-! ## The head and its retirement (R134 to R136) -/

/-- R135: the head is an urgent notice, else a routine one, else none. -/
theorem headPayload_eq (s : State) : headPayload s = headBytes s.notes s.time.tick := by
  unfold headPayload headBytes NoticeUnit.head
  cases s.notes.urgent with
  | cons n older => rfl
  | nil =>
    cases s.notes.routine with
    | cons n older => rfl
    | nil => rfl

theorem urgentOverflow_urgent : NoticeClass.urgentOverflow.urgent = true := by decide
theorem routineOverflow_routine : NoticeClass.routineOverflow.urgent = false := by decide

/-- R134: an urgent lane that has dropped notices gets the marker URGENT_OVERFLOW. -/
theorem retireUrgent_eq (u : NoticeUnit) (now : Tick) : u.retireUrgent now = retired true u now := by
  rw [NoticeUnit.retireUrgent, retired, if_pos rfl]
  split
  next noneDropped => rfl
  next dropped =>
    rw [append_urgent]
    · rfl
    · exact urgentOverflow_urgent

/-- R134: a routine lane that has dropped notices gets the marker ROUTINE_OVERFLOW. -/
theorem retireRoutine_eq (u : NoticeUnit) (now : Tick) : u.retireRoutine now = retired false u now := by
  rw [NoticeUnit.retireRoutine, retired, if_neg Bool.false_ne_true]
  split
  next noneDropped => rfl
  next dropped =>
    rw [append_routine]
    · rfl
    · exact routineOverflow_routine

/-! ## What the commands answer -/

theorem cmdNoteNext_eq (h l : Byte) (s : State) :
    cmdNoteNext [h, l] s =
      if s.notes.urgent.head?.map Notice.seq = some (h ++ l) then
        done (headBytes (retired true s.notes s.time.tick) s.time.tick) (s.setNotes (retired true s.notes s.time.tick))
      else if s.notes.routine.head?.map Notice.seq = some (h ++ l) then
        done (headBytes (retired false s.notes s.time.tick) s.time.tick) (s.setNotes (retired false s.notes s.time.tick))
      else fail .sequence s := by
  simp only [cmdNoteNext, NoticeUnit.acknowledge, retireUrgent_eq, retireRoutine_eq, headPayload_eq]
  by_cases urgent : s.notes.urgent.head?.map Notice.seq = some (h ++ l)
  · rw [if_pos urgent, if_pos urgent]
    rfl
  · rw [if_neg urgent, if_neg urgent]
    by_cases routine : s.notes.routine.head?.map Notice.seq = some (h ++ l)
    · rw [if_pos routine, if_pos routine]
      rfl
    · rw [if_neg routine, if_neg routine]

theorem cmdNoteEnable_eq (h l : Byte) (s : State) :
    cmdNoteEnable [h, l] s =
      if (h ++ l : Half) &&& 0xF801 ≠ 0 then fail .param s
      else done [h, l] (s.setNotes { s.notes with enables := h ++ l }) := by
  rw [cmdNoteEnable, TheCueTable.be16_append]

/-- R132: the byte names one of the three sticky classes, or none. -/
theorem cmdSysUnstick_eq (b : Byte) (s : State) :
    cmdSysUnstick [b] s =
      if b = 0x06 then
        done (byteB s.notes.conflict.latch :: be16 s.notes.conflict.count)
          (s.setNotes { s.notes with conflict := { latch := false, count := 0 } })
      else if b = 0x08 then
        done (byteB s.notes.edgesLost.latch :: be16 s.notes.edgesLost.count)
          (s.setNotes { s.notes with edgesLost := { latch := false, count := 0 } })
      else if b = 0x0A then
        done (byteB s.notes.journalLoss.latch :: be16 s.notes.journalLoss.count)
          (s.setNotes { s.notes with journalLoss := { latch := false, count := 0 } })
      else fail .param s := by
  by_cases conflict : b = 0x06
  · subst conflict
    rfl
  by_cases edgesLost : b = 0x08
  · subst edgesLost
    rfl
  by_cases journalLoss : b = 0x0A
  · subst journalLoss
    rfl
  simp only [cmdSysUnstick, stickyOfCode, if_neg conflict, if_neg edgesLost, if_neg journalLoss]

/-! ## The four commands served -/

section
variable {f : Frame} {s : State} (h : Served f s)
include h

/-- A command that is answered OK and sets nothing but the notice unit. -/
theorem serveCommand_setsNotes {body : List Byte → State → Reply} {payload : List Byte} {x : NoticeUnit}
    (reply : body f.params (met f.pins s) = done payload ((met f.pins s).setNotes x)) :
    serveCommand (plain body) f s = granted f payload ((met f.pins s).setNotes x) :=
  serveCommand_done h reply (served_softPending h) rfl

/-- One case of what a command answers: under its condition it is answered OK and sets nothing but the notice unit. -/
theorem serveCommand_setsNotes_if {body : List Byte → State → Reply} {c : Prop} [Decidable c] {payload : List Byte}
    {x : NoticeUnit} {rest : Reply} {t : State}
    (reply : body f.params (met f.pins s) = if c then done payload ((met f.pins s).setNotes x) else rest)
    (otherwise : body f.params (met f.pins s) = rest → serveCommand (plain body) f s = t) :
    serveCommand (plain body) f s = if c then granted f payload ((met f.pins s).setNotes x) else t := by
  split
  next taken => exact serveCommand_setsNotes h (reply.trans (if_pos taken))
  next other => exact otherwise (reply.trans (if_neg other))

end

/-- Settles O30: the reply of each command on the state that the frame met. -/
theorem noteCommandsReadAndRetire : Obligations.NoteCommandsReadAndRetire := by
  unfold Obligations.NoteCommandsReadAndRetire
  intro f s h
  refine ⟨congrArg Host.Outcome.next (show serveCommand (plain cmdNoteFirst) f s = _ from ?_),
    congrArg Host.Outcome.next (show serveCommand (plain cmdNoteNext) f s = _ from ?_),
    congrArg Host.Outcome.next (show serveCommand (plain cmdNoteEnable) f s = _ from ?_),
    congrArg Host.Outcome.next (show serveCommand (plain cmdSysUnstick) f s = _ from ?_)⟩
  · cases params : f.params with
    | cons b rest => exact serveCommand_fail h (by rw [params]; rfl) (by decide)
    | nil =>
      rw [if_neg (not_not_intro rfl)]
      exact serveCommand_done h (by rw [params, cmdNoteFirst, headPayload_eq]; rfl) (served_softPending h) rfl
  · split
    next hi lo params =>
      have reply := (congrArg (cmdNoteNext · (met f.pins s)) params).trans (cmdNoteNext_eq hi lo _)
      exact serveCommand_setsNotes_if h reply fun notUrgent => serveCommand_setsNotes_if h notUrgent fun noHead =>
        serveCommand_fail h noHead (by decide)
    next other => exact serveCommand_fail h (cmdNoteNext.eq_2 _ _ other) (by decide)
  · split
    next hi lo params =>
      have reply := (congrArg (cmdNoteEnable · (met f.pins s)) params).trans (cmdNoteEnable_eq hi lo _)
      split
      next reserved => exact serveCommand_fail h (reply.trans (if_pos reserved)) (by decide)
      next valid => exact serveCommand_setsNotes h (reply.trans (if_neg valid))
    next other => exact serveCommand_fail h (cmdNoteEnable.eq_2 _ _ other) (by decide)
  · split
    next b params =>
      have reply := (congrArg (cmdSysUnstick · (met f.pins s)) params).trans (cmdSysUnstick_eq b _)
      exact serveCommand_setsNotes_if h reply fun notConflict => serveCommand_setsNotes_if h notConflict fun notEdges =>
        serveCommand_setsNotes_if h notEdges fun notSticky => serveCommand_fail h notSticky (by decide)
    next other => exact serveCommand_fail h (cmdSysUnstick.eq_2 _ _ other) (by decide)

end Sys2Proof.NoticesAndTheAttentionLine
end

section
/-! PROOFS. Stand-in entry and return, and warden faults, in the words of the statements. -/

open Sys2Proof Sys2Proof.Machine

namespace Sys2Proof.TheWarden

/-! ## The entry (R160 to R163) -/

theorem add_eq_withCause (x : Causes) (c : Cause) : x.add c = withCause c x := by
  cases c <;> simp [Causes.add, withCause]

/-- R162 step 4: the write of the safe levels. -/
theorem writeSafe_eq (m : Half) (chans : Vector Channel 16) :
    writeSafe m chans = Vector.ofFn fun i =>
      if m.getLsbD i.val = true then { chans[i] with level := chans[i].safe } else chans[i] := by
  have level (safe old : Level) : resulting safe.kind old = safe := by cases safe <;> rfl
  simp only [writeSafe, level]

theorem ownedMask_getLsbD (s : State) (i : Fin 16) : (ownedMask s).getLsbD i.val = s.chans[i].owned :=
  OutputChannels.maskOf_getLsbD Channel.owned s.chans i

/-- R162 step 5: the state of an entry by the standby copy. -/
def entryState (standby : Option Image) : StandState := if standby.isSome then .run else .safe

/-- R162 steps 1 to 3. -/
theorem entryStart_eq (c : Cause) (s : State) :
    entryStart c s =
      ((s.setStand { s.stand with
        state := entryState s.stand.standby, causes := withCause c s.stand.causes, masked := 0
        entryStamp := s.time.tick }).setWard { s.ward with beatSince := false }).setTime
          (if s.time.running = true then s.time else { s.time with running := true, divider := 0 }) := by
  rw [← add_eq_withCause]
  split
  next running => exact if_pos running
  next stopped => exact if_neg stopped

theorem entryState_eq (standby : Option Image) :
    entryState standby = match standby with | none => .safe | some _ => .run := by
  cases standby <;> rfl

theorem entryState_ne_host (standby : Option Image) : entryState standby ≠ .host := by
  cases standby <;> exact StandState.noConfusion

/-- R43, R162: once the entry has begun, STANDIN owns its channels. -/
theorem standinMask_entryStart (c : Cause) (s : State) : standinMask (entryStart c s) = ownedMask s := by
  rw [entryStart_eq]
  exact if_neg (entryState_ne_host _)

/-- R162 steps 1 to 5, without the cuts. -/
theorem entryImage_entryStart (c : Cause) (s : State) :
    entryImage ((entryStart c s).setChans (writeSafe (ownedMask s) s.chans)) = enteredBlocks c s := by
  simp only [writeSafe_eq, ownedMask_getLsbD, entryStart_eq, entryState_eq]
  rfl

/-- R162: the cuts of an entry touch nothing of the stand-in engine. -/
theorem entryImage_cutEverywhere (m : Half) (s : State) :
    entryImage (cutEverywhere m s) = cutEverywhere m (entryImage s) := rfl

theorem entryImage_entryDrive (c : Cause) (s : State) :
    entryImage (entryDrive (entryStart c s)) = cutEverywhere (ownedMask s) (enteredBlocks c s) := by
  rw [entryDrive, standinMask_entryStart, OutputChannels.cutBy_none, entryImage_cutEverywhere, entryStart_chans,
    entryImage_entryStart]

/-- R163: state, active bank and cause, each in its place. -/
theorem entryDetail_eq (c : Cause) (s : State) :
    entryDetail c (cutEverywhere (ownedMask s) (enteredBlocks c s)) = enterDetail c s := by
  have state : (cutEverywhere (ownedMask s) (enteredBlocks c s)).stand.state = entryState s.stand.standby :=
    (entryState_eq _).symm
  have active : (cutEverywhere (ownedMask s) (enteredBlocks c s)).stand.active = s.stand.standby := rfl
  unfold entryDetail enterDetail
  rw [state, active]
  cases s.stand.standby with
  | none => cases c <;> rfl
  | some image =>
    simp only [bankCode, entryState_eq]
    cases image.bank <;> cases c <;> rfl

/-- R162, R163: the entry, in the words of the statements. -/
theorem enterStandin_eq (c : Cause) (s : State) : enterStandin c s = entered c s := by
  have cause : c.alone.code = byteN (match c with | .warden => 1 | .command => 2 | .fsafe => 4 | .powerUp => 8) := by
    cases c <;> rfl
  simp only [enterStandin, entryImage_entryDrive, entryDetail_eq, cause]
  rfl

/-- R161: a request for stand-in, in the words of the statements. -/
theorem requestStandin_eq (c : Cause) (s : State) : requestStandin c s = requested c s := by
  rw [requestStandin, requested, enterStandin_eq, causeAdded, add_eq_withCause]

/-! ## The return (R165 to R167, R173) -/

theorem selectImage_eq (a b : Option Image) : selectImage a b = selected a b := by
  cases a <;> cases b <;> rfl

/-- R165: an evaluation, in the words of the statements. -/
theorem evaluateBanks_eq (s : State) : evaluateBanks s = evaluated s := by
  simp only [evaluateBanks, selectImage_eq]
  rfl

theorem evaluationHeld_eq (s : State) : evaluationHeld s = EvaluationWaits s.store.engine := by
  unfold evaluationHeld EvaluationWaits
  cases s.store.engine with
  | programming page data left => exact (Bool.decide_and ..).symm
  | idle => rfl
  | appending slot record left => rfl
  | wiping page left failed => rfl

theorem evaluateAtReturn_eq (s : State) :
    evaluateAtReturn s =
      if s.stand.evalPending = true ∧ EvaluationWaits s.store.engine = false then evaluated s else s := by
  simp only [evaluateAtReturn, evaluationHeld_eq, evaluateBanks_eq, Bool.and_eq_true, Bool.not_eq_true']

/-- Two bytes as one number of sixteen bits. -/
theorem halfN_bytes (hi lo : Byte) : halfN (256 * hi.toNat + lo.toNat) = hi ++ lo := by
  have hiLt := hi.isLt
  have loLt := lo.isLt
  apply BitVec.eq_of_toNat_eq
  rw [halfN, BitVec.toNat_ofNat, BitVec.toNat_append, ← Nat.shiftLeft_add_eq_or_of_lt loLt, Nat.shiftLeft_eq]
  omega

/-- R173: the return, in the words of the statements. -/
theorem returnToHost_eq (s : State) : returnToHost s = returned s := by
  simp only [returnToHost, evaluateAtReturn_eq, halfN_bytes]
  rfl

/-! ## Warden faults (R148, R149) -/

/-- R149: the response in its order: stand-in, then nHRST, then the strikes; an entry leaves the configured response as it
is. -/
theorem wardenResponse_eq (s : State) :
    wardenResponse s =
      let t := if s.ward.respStandin = true then requested .warden s else s
      let t := if s.ward.respHrst = true then t.setWard { t.ward with hrst := 20 } else t
      t.setWard { t.ward with strikes := 0 } := by
  have response : (if s.ward.respStandin = true then requested .warden s else s).ward.respHrst = s.ward.respHrst := by
    split
    · rw [← requestStandin_eq]
      rcases requestStandin_ward .warden s with same | cleared
      · rw [same]
      · rw [cleared]
    · rfl
  have pulsed (t : State) (kept : t.ward.respHrst = s.ward.respHrst) :
      (if t.ward.respHrst then startHrst t else t) =
        if s.ward.respHrst = true then t.setWard { t.ward with hrst := 20 } else t :=
    if_congr (by rw [kept]) rfl rfl
  simp only [wardenResponse, requestStandin_eq, pulsed _ response]

theorem recordFault_ward (k : FaultKind) (s : State) :
    (recordFault k s).ward =
      { s.ward with lastFault := k, faults := s.ward.faults + 1, strikes := s.ward.strikes + 1 } := by
  rw [recordFault, queueJournal_ward, raise_ward, State.setWard_ward]

/-- R148, R149: a fault with its response, in the words of the statements. -/
theorem wardenFault_eq (k : FaultKind) (s : State) : wardenFault k s = faulted k s := by
  simp only [wardenFault, wardenResponse_eq, recordFault_ward]
  rfl

end Sys2Proof.TheWarden
end

section
/-! PROOFS. The commands of group WARD, and the return to HOST. -/

open Sys2Proof Sys2Proof.Machine Sys2Proof.TimebaseAndTicks

namespace Sys2Proof.TheWarden

/-! ## What the blocks answer (R142, R145, R146, R151, R152, R171, R172) -/

/-- R141: bits 7 to 2 of a response byte are 0. -/
theorem validResponse_iff (b : Byte) : validResponse b = true ↔ b.toNat ≤ 3 := by
  revert b
  decide

/-- R142: the checks of WARD.SETUP in their order, and its effect. -/
theorem cmdWardSetup_eq (a1 a0 b1 b0 th resp : Byte) (s : State) :
    cmdWardSetup [a1, a0, b1, b0, th, resp] s =
      if (b1 ++ b0 : Half).toNat < 2 ∨ 60000 < (b1 ++ b0 : Half).toNat ∨
          (b1 ++ b0 : Half).toNat ≤ (a1 ++ a0 : Half).toNat ∨ th.toNat < 1 ∨ 3 < th.toNat ∨ 3 < resp.toNat then fail .param s
      else if s.ward.armed = true then fail .state s
      else done [] (s.setWard { s.ward with
        tMin := a1 ++ a0, tMax := b1 ++ b0, threshold := th.toNat, respStandin := resp.getLsbD 0
        respHrst := resp.getLsbD 1 }) := by
  refine if_congr ?_ rfl rfl
  rw [Bool.not_eq_true', ← Bool.not_eq_true, Bool.and_eq_true, validResponse_iff]
  simp only [validTMin, validTMax, validThreshold, Bool.and_eq_true, decide_eq_true_eq]
  omega

theorem cmdWardArm_eq (params : List Byte) (s : State) :
    cmdWardArm params s =
      if params ≠ [] then fail .format s
      else if s.ward.armed = true then fail .state s
      else done [] (armWarden s) := by
  cases params <;> rfl

theorem off_iff (w : Warden) : w.off = true ↔ w.armed = false := by
  rw [Warden.off, Bool.not_eq_true']

theorem cmdWardDisarmReq_eq (params : List Byte) (s : State) :
    cmdWardDisarmReq params s =
      if params ≠ [] then fail .format s
      else if s.ward.armed = false then fail .state s
      else if s.ward.latch = true then fail .locked s
      else done [] s := by
  cases params with
  | cons b rest => rfl
  | nil =>
    rw [if_neg (not_not_intro rfl)]
    exact if_congr (off_iff s.ward) rfl rfl

/-- R21: whether a completion finds its window. -/
theorem not_windowOpen_iff (k : WindowKind) (s : State) :
    (!windowOpen k s) = true ↔ s.port.window.map Window.kind ≠ some k := by
  rw [windowOpen, Bool.not_eq_true', beq_eq_false_iff_ne]

theorem cmdWardDisarmConfirm_eq (params : List Byte) (s : State) :
    cmdWardDisarmConfirm params s =
      if params ≠ [] then fail .format s
      else if s.port.window.map Window.kind ≠ some .disarm then fail .sequence s
      else if s.ward.armed = false then fail .state s
      else if s.ward.latch = true then fail .locked s
      else done [] (disarmWarden s) := by
  cases params with
  | cons b rest => rfl
  | nil =>
    rw [if_neg (not_not_intro rfl)]
    exact if_congr (not_windowOpen_iff .disarm s) rfl (if_congr (off_iff s.ward) rfl rfl)

/-- R146, R147: the judgement of a beat. -/
theorem cmdWardBeat_eq (count : Byte) (s : State) :
    cmdWardBeat [count] s =
      if s.ward.armed = false then fail .state s
      else if s.ward.closedPhase = true ∧ s.ward.elapsed.toNat < s.ward.tMin.toNat then badBeat .early s
      else if count ≠ s.ward.expected then badBeat .wrongCount s
      else done ((s.ward.expected + 1) :: be16 s.ward.elapsed) (goodBeat s) := by
  simp only [cmdWardBeat, off_iff]
  split
  next off => rfl
  next on =>
    refine if_congr ?_ rfl rfl
    rw [Warden.closed, Bool.eq_true_of_not_eq_false on, Bool.true_and, Bool.and_eq_true, decide_eq_true_eq]

theorem cmdStandReturnReq_eq (params : List Byte) (s : State) :
    cmdStandReturnReq params s =
      if params ≠ [] then fail .format s
      else if s.stand.state = .host then fail .state s
      else done [] s := by
  cases params <;> rfl

/-- R156: what refuses a return. -/
theorem not_returnAllowed_iff (w : Warden) :
    (!returnAllowed w) = true ↔
      w.fsafeAsserted = true ∨ (w.armed = true ∧ (w.strikes ≠ 0 ∨ w.beatSince = false)) := by
  simp only [returnAllowed, Bool.not_and, Bool.not_or, Bool.not_not, Bool.or_eq_true, Bool.and_eq_true, Bool.not_eq_true',
    beq_eq_false_iff_ne]

theorem cmdStandReturnConfirm_eq (params : List Byte) (s : State) :
    cmdStandReturnConfirm params s =
      if params ≠ [] then fail .format s
      else if s.port.window.map Window.kind ≠ some .goBack then fail .sequence s
      else if s.stand.state = .host ∨ s.ward.fsafeAsserted = true ∨
          (s.ward.armed = true ∧ (s.ward.strikes ≠ 0 ∨ s.ward.beatSince = false)) then fail .state s
      else done (imageFields (returned s).stand.standby) (returned s) := by
  cases params with
  | cons b rest => rfl
  | nil =>
    rw [if_neg (not_not_intro rfl)]
    refine if_congr (not_windowOpen_iff .goBack s) rfl ?_
    rw [returnToHost_eq, ← InputLinesAndTheEdgeLog.imageBrief_eq]
    by_cases host : s.stand.state = .host
    · rw [if_pos host, if_pos (.inl host)]
    · rw [if_neg host]
      exact if_congr ((not_returnAllowed_iff s.ward).trans (or_iff_right host).symm) rfl rfl

/-! ## Checks in their order (R12, R17, R19) -/

section
variable {f : Frame} {s : State} (h : Served f s)
include h

/-- R17: one check of an executed command: it is refused, or the checks behind it decide. -/
theorem serveCommand_refuses_if {cmd : Command} {bad : Prop} [Decidable bad] {st : Status} {rest : Reply} {t : State}
    (reply : cmd.body f.params (met f.pins s) = if bad then fail st (met f.pins s) else rest) (refusal : st ≠ .ok)
    (passed : cmd.body f.params (met f.pins s) = rest → serveCommand cmd f s = t) :
    serveCommand cmd f s = if bad then refusedWith f st s else t := by
  split
  next refused =>
    have e := reply.trans (if_pos refused)
    rw [serveCommand_served _ f s h (by rw [e]; exact served_softPending h) (by rw [e]; rfl), e]
    simp [fail, refusal, refusedWith]
  next taken => exact passed (reply.trans (if_neg taken))

/-- R19: an executed request that its block answers OK. -/
theorem serveCommand_opened {body : List Byte → State → Reply} {k : WindowKind}
    (reply : body f.params (met f.pins s) = done [] (met f.pins s)) :
    serveCommand (request k body) f s = opened f k (met f.pins s) := by
  have e : (request k body).body f.params (met f.pins s) = done [] (met f.pins s) := reply
  rw [serveCommand_served _ f s h (by rw [e]; exact served_softPending h) (by rw [e]; rfl), e]
  rfl

/-- A command of group WARD that is answered OK and sets nothing but the warden. -/
theorem serveCommand_setsWard {body : List Byte → State → Reply} {payload : List Byte} {x : Warden}
    (reply : body f.params (met f.pins s) = done payload ((met f.pins s).setWard x)) :
    serveCommand (plain body) f s = granted f payload ((met f.pins s).setWard x) :=
  serveCommand_done h reply (served_softPending h) rfl

/-- R146, R17: a bad beat keeps its effects. -/
theorem serveCommand_badBeat {body : List Byte → State → Reply} {k : FaultKind}
    (reply : body f.params (met f.pins s) = badBeat k (met f.pins s)) :
    serveCommand (plain body) f s =
      concluded f none .beat [] (startWindow true (faulted k (met f.pins s))) := by
  have e : (plain body).body f.params (met f.pins s) = badBeat k (met f.pins s) := reply
  have soft : (badBeat k (met f.pins s)).state.sys.softPending = false :=
    (congrArg SysCtl.softPending (wardenFault_sys k (met f.pins s))).trans (served_softPending h)
  have inputs : (badBeat k (met f.pins s)).state.pins.inputs = f.pins :=
    congrArg Pins.inputs (wardenFault_pins k (met f.pins s))
  rw [serveCommand_served _ f s h (by rw [e]; exact soft) (by rw [e]; exact inputs), e, ← wardenFault_eq]
  rfl

end

/-! ## The commands -/

/-- Settles O32, command by command, check by check. -/
theorem wardenSetupArmAndDisarm : Obligations.WardenSetupArmAndDisarm := by
  unfold Obligations.WardenSetupArmAndDisarm
  intro f s h
  refine ⟨congrArg Host.Outcome.next (show serveCommand (plain cmdWardSetup) f s = _ from ?_),
    congrArg Host.Outcome.next (show serveCommand (plain cmdWardArm) f s = _ from ?_),
    congrArg Host.Outcome.next (show serveCommand (request .disarm cmdWardDisarmReq) f s = _ from ?_),
    congrArg Host.Outcome.next (show serveCommand (plain cmdWardDisarmConfirm) f s = _ from ?_)⟩
  · split
    next a1 a0 b1 b0 th resp params =>
      have reply := (congrArg (cmdWardSetup · (met f.pins s)) params).trans (cmdWardSetup_eq a1 a0 b1 b0 th resp _)
      exact serveCommand_refuses_if h reply (by decide) fun valid =>
        serveCommand_refuses_if h valid (by decide) fun off => serveCommand_setsWard h off
    next other => exact serveCommand_fail h (cmdWardSetup.eq_2 _ _ other) (by decide)
  · exact serveCommand_refuses_if h (cmdWardArm_eq _ _) (by decide) fun form =>
      serveCommand_refuses_if h form (by decide) fun off => serveCommand_setsWard h off
  · exact serveCommand_refuses_if h (cmdWardDisarmReq_eq _ _) (by decide) fun form =>
      serveCommand_refuses_if h form (by decide) fun armed =>
        serveCommand_refuses_if h armed (by decide) fun unlatched => serveCommand_opened h unlatched
  · exact serveCommand_refuses_if h (cmdWardDisarmConfirm_eq _ _) (by decide) fun form =>
      serveCommand_refuses_if h form (by decide) fun confirmed =>
        serveCommand_refuses_if h confirmed (by decide) fun armed =>
          serveCommand_refuses_if h armed (by decide) fun unlatched => serveCommand_setsWard h unlatched

/-- Settles O33: the judgement of WARD.BEAT on the state that the frame met. -/
theorem wardBeatIsJudged : Obligations.WardBeatIsJudged := by
  unfold Obligations.WardBeatIsJudged
  intro f s h
  refine congrArg Host.Outcome.next (show serveCommand (plain cmdWardBeat) f s = _ from ?_)
  split
  next count params =>
    have reply := (congrArg (cmdWardBeat · (met f.pins s)) params).trans (cmdWardBeat_eq count _)
    refine serveCommand_refuses_if h reply (by decide) fun judged => ?_
    split
    next early => exact serveCommand_badBeat h (judged.trans (if_pos early))
    next inTime =>
      replace judged := judged.trans (if_neg inTime)
      split
      next wrong => exact serveCommand_badBeat h (judged.trans (if_pos wrong))
      next right => exact serveCommand_setsWard h (judged.trans (if_neg right))
  next other => exact serveCommand_fail h (cmdWardBeat.eq_2 _ _ other) (by decide)

theorem returned_sys (s : State) : (returned s).sys = s.sys := by
  rw [returned, queueJournal_sys, raise_sys]
  split <;> rfl

theorem returned_pins (s : State) : (returned s).pins = s.pins := by
  rw [returned, queueJournal_pins, raise_pins]
  split <;> rfl

/-- Settles O35: the request and the confirmation, check by check. -/
theorem standReturnNeedsTheWardensConsent : Obligations.StandReturnNeedsTheWardensConsent := by
  unfold Obligations.StandReturnNeedsTheWardensConsent
  intro f s h
  refine ⟨congrArg Host.Outcome.next (show serveCommand (request .goBack cmdStandReturnReq) f s = _ from ?_),
    congrArg Host.Outcome.next (show serveCommand (plain cmdStandReturnConfirm) f s = _ from ?_)⟩
  · exact serveCommand_refuses_if h (cmdStandReturnReq_eq _ _) (by decide) fun form =>
      serveCommand_refuses_if h form (by decide) fun away => serveCommand_opened h away
  · refine serveCommand_refuses_if h (cmdStandReturnConfirm_eq _ _) (by decide) fun form =>
      serveCommand_refuses_if h form (by decide) fun confirmed =>
        serveCommand_refuses_if h confirmed (by decide) fun allowed => serveCommand_done h allowed ?_ ?_
    · rw [returned_sys]
      exact served_softPending h
    · rw [returned_pins]
      rfl

end Sys2Proof.TheWarden
end

section
/-! PROOFS. nFSAFE and the warden's timeout. -/

open Sys2Proof Sys2Proof.Machine

namespace Sys2Proof.TheWarden

/-! ## Events of the clocks (R144, R153, R154) -/

/-- An event of the clocks takes place when the port is ready and it is due. -/
theorem occur_eq {due : Bool} {cond : Prop} [Decidable cond] (dueIff : due = true ↔ cond)
    (effect : State → State) (s : State) :
    occur due effect s = if s.sys.phase = .ready ∧ cond then settle (effect s) else s := by
  refine if_congr ?_ rfl rfl
  rw [Bool.and_eq_true, beq_iff_eq, dueIff]

theorem fsafeAssertDue_iff (s : State) :
    fsafeAssertDue s = true ↔ s.ward.fsafeEnable = true ∧ s.ward.fsafeAsserted = false ∧
      s.pins.inputs.nFsafe = false ∧ 2 ≤ s.ward.fsafeRun := by
  simp only [fsafeAssertDue, Bool.and_eq_true, Bool.not_eq_true', decide_eq_true_eq, and_assoc]

theorem fsafeClearDue_iff (s : State) :
    fsafeClearDue s = true ↔ s.ward.fsafeEnable = true ∧ s.ward.fsafeAsserted = true ∧
      s.pins.inputs.nFsafe = true ∧ 2 ≤ s.ward.fsafeRun := by
  simp only [fsafeClearDue, Bool.and_eq_true, decide_eq_true_eq, and_assoc]

theorem timeoutDue_iff (s : State) :
    timeoutDue s = true ↔ s.ward.armed = true ∧ s.ward.elapsed + 1 = s.ward.tMax := by
  rw [timeoutDue, Bool.and_eq_true, beq_iff_eq]

/-- R154: an assertion, in the words of the statements. -/
theorem fsafeAssert_eq (s : State) : fsafeAssert s = fsafeAsserted s := requestStandin_eq .fsafe _

/-- R153, R154: a deassertion, in the words of the statements. -/
theorem fsafeClear_eq {s : State} (asserted : s.ward.fsafeAsserted = true) : fsafeClear s = fsafeCleared s := by
  rw [fsafeClear, countFsafe, if_pos asserted, TimebaseAndTicks.satInc_eq_countedOnce]
  rfl

/-- R144: the timeout, in the words of the statements. -/
theorem wardenTimeout_eq (s : State) : wardenTimeout s = timedOut s := by
  rw [wardenTimeout, wardenFault_eq]
  rfl

/-- Settles O50: each event when it is due, with its effect. -/
theorem failuresAreRecorded : Obligations.FailuresAreRecorded := by
  unfold Obligations.FailuresAreRecorded
  intro s
  refine ⟨congrArg Host.Outcome.next ?_, congrArg Host.Outcome.next ?_, congrArg Host.Outcome.next ?_⟩
  · rw [← fsafeAssert_eq]
    exact occur_eq (fsafeAssertDue_iff s) fsafeAssert s
  · refine (occur_eq (fsafeClearDue_iff s) fsafeClear s).trans (ite_congr rfl ?_ fun _ => rfl)
    rintro ⟨-, -, asserted, -⟩
    rw [fsafeClear_eq asserted]
  · rw [← wardenTimeout_eq]
    exact occur_eq (timeoutDue_iff s) wardenTimeout s

end Sys2Proof.TheWarden
end

section
/-! PROOFS. STAND.ENTER, and the program of the active image. -/

open Sys2Proof Sys2Proof.Machine Sys2Proof.TimebaseAndTicks

namespace Sys2Proof.StandInMode

/-! ## STAND.ENTER (R161 to R164) -/

/-- R164: the state before the request, and the state and causes after it. -/
theorem cmdStandEnter_eq (params : List Byte) (s : State) :
    cmdStandEnter params s =
      if params ≠ [] then fail .format s
      else done [s.stand.state.code, (requested .command s).stand.state.code, (requested .command s).stand.causes.code]
        (requested .command s) := by
  rw [← TheWarden.requestStandin_eq]
  cases params <;> rfl

/-- A request for stand-in leaves a soft reset that waits, and the pins, as they are. -/
theorem requested_sys (c : Cause) (s : State) : (requested c s).sys = s.sys := by
  rw [← TheWarden.requestStandin_eq, requestStandin_sys]

theorem requested_pins (c : Cause) (s : State) : (requested c s).pins = s.pins := by
  rw [← TheWarden.requestStandin_eq, requestStandin_pins]

/-- Settles O34: the one check of the command, and its request on the state that the frame met. -/
theorem standEnterEntersOrAddsItsCause : Obligations.StandEnterEntersOrAddsItsCause := by
  unfold Obligations.StandEnterEntersOrAddsItsCause
  intro f s h
  refine congrArg Host.Outcome.next (show serveCommand (plain cmdStandEnter) f s = _ from ?_)
  refine TheWarden.serveCommand_refuses_if h (cmdStandEnter_eq _ _) (by decide) fun form =>
    serveCommand_done h form ?_ ?_
  · rw [requested_sys]
    exact served_softPending h
  · rw [requested_pins]
    rfl

/-! ## The steps of a program (R168) -/

/-- R168 step 1: one step writes the stand-in-owned channels of its mask, and cuts. -/
theorem applyStep_eq (s : State) (y : ProgramStep) :
    applyStep s y =
      cutEverywhere (y.mask &&& ownedMask s) (s.setChans (written (y.mask &&& ownedMask s) y.kind s.chans)) := by
  rw [applyStep, driveAndCut, OutputChannels.cutBy_none, writeMask_eq]
  rfl

theorem applyStep_stand (s : State) (y : ProgramStep) : (applyStep s y).stand = s.stand := by
  rw [applyStep, driveAndCut, cutBy_stand, State.setChans_stand]

/-- The steps of a program move neither its position nor its image. -/
theorem foldl_applyStep_stand (steps : List ProgramStep) (s : State) : (steps.foldl applyStep s).stand = s.stand :=
  foldl_keeps applyStep_stand steps s

/-! ## The end of the cycle (R168, R169) -/

/-- R169: what the end of the cycle of an image makes of a state. -/
def cycleEnded (x : Image) (s : State) : State :=
  s.setStand (match x.mode with
    | .cycle => { s.stand with pos := 0 }
    | .once => { s.stand with state := .ended, pos := x.length })

theorem cycleEnd_eq {s : State} {x : Image} (active : s.stand.active = some x) : cycleEnd s = cycleEnded x s := by
  simp only [cycleEnd, cycleEnded, active]
  cases x.mode <;> rfl

/-- R168, R169: an active program is one advance from its cycle length. -/
theorem cycleEndDue_iff {s : State} {x : Image} (active : s.stand.active = some x) :
    cycleEndDue s = true ↔ s.stand.state = .run ∧ s.stand.pos + 1 = x.length := by
  simp only [cycleEndDue, active, Bool.and_eq_true, beq_iff_eq]

theorem cycleEndDue_of_noImage {s : State} (active : s.stand.active = none) : cycleEndDue s = false := by
  simp only [cycleEndDue, active]

/-- R168 step 2: in RUN the advance either reaches the cycle length or moves the position by one. -/
theorem advance_eq {s : State} {x : Image} (run : s.stand.state = .run) (active : s.stand.active = some x) :
    advance s =
      if s.stand.pos + 1 = x.length then cycleEnded x s else s.setStand { s.stand with pos := s.stand.pos + 1 } := by
  rw [advance, cycleEnd_eq active]
  exact if_congr ((cycleEndDue_iff active).trans (and_iff_right run)) rfl rfl

/-! ## The stage (R168) -/

/-- R168: stage 4 in RUN: the steps at the cycle position, and the advance from there. -/
theorem standStage_of_run {s : State} {x : Image} (run : s.stand.state = .run) (active : s.stand.active = some x) :
    standStage s =
      let t := (x.steps.filter fun y => y.offset == s.stand.pos).foldl applyStep s
      if s.stand.pos + 1 = x.length then cycleEnded x t else t.setStand { s.stand with pos := s.stand.pos + 1 } := by
  have stage : standStage s = advance ((x.steps.filter fun y => y.offset == s.stand.pos).foldl applyStep s) := by
    rw [standStage, if_pos run, active]
  have stand := foldl_applyStep_stand (x.steps.filter fun y => y.offset == s.stand.pos) s
  rw [stage, advance_eq (by rw [stand, run]) (by rw [stand, active]), stand]

theorem standStage_of_not_run {s : State} (idle : s.stand.state ≠ .run) : standStage s = s := if_neg idle

theorem standStage_of_noImage {s : State} (active : s.stand.active = none) : standStage s = s := by
  simp only [standStage, active, ite_self]

/-- Log 5: the end of a cycle as a row: it takes place in a tick that reaches the cycle length. -/
theorem standinCycleEnd_row (s : State) :
    inTick (cycleEndDue s) cycleEnd s =
      match s.stand.active with
      | none => s
      | some x =>
        if Ticking s ∧ s.stand.state = .run ∧ s.stand.pos + 1 = x.length then settle (cycleEnded x s) else s := by
  cases active : s.stand.active with
  | none => rw [cycleEndDue_of_noImage active, TheCueTable.inTick_notDue]
  | some x =>
    rw [TheCueTable.inTick_eq, cycleEnd_eq active]
    exact if_congr (and_congr_right' (cycleEndDue_iff active)) rfl rfl

/-- Settles O47: the stage by the stand-in state and the active image, and the end of the cycle as a row. -/
theorem programsRunThroughTheirCycle : Obligations.ProgramsRunThroughTheirCycle := by
  unfold Obligations.ProgramsRunThroughTheirCycle
  intro s
  refine ⟨?_, congrArg Host.Outcome.next (standinCycleEnd_row s)⟩
  split
  next x run active =>
    simp only [← applyStep_eq]
    exact standStage_of_run run active
  next notRunning =>
    by_cases run : s.stand.state = .run
    · cases active : s.stand.active with
      | none => exact standStage_of_noImage active
      | some x => exact (notRunning x run active).elim
    · exact standStage_of_not_run run

end Sys2Proof.StandInMode
end

section
/-! PROOFS. The commands of group STORE on the page buffer, the pages and the lock set. -/

open Sys2Proof Sys2Proof.Machine Sys2Proof.TimebaseAndTicks Sys2Proof.TheWarden

namespace Sys2Proof.RetainedStoreAndJournal

-- One declaration at a time here: the proofs before these are finished first, so that the whole text, compiled as one, keeps to
-- the number of threads that the check's memory limit allows.
set_option Elab.async false

/-! ## The engine and the locks, in the words of the statements (R176, R177, R180) -/

theorem isWiping_eq (e : Engine) :
    isWiping e =
      match e with
      | .idle => false
      | .programming _ _ _ => false
      | .appending _ _ _ => false
      | .wiping _ _ _ => true := by
  cases e <;> rfl

/-- R180: whether the engine wipes, or programs a page, whatever the origin. -/
theorem readBusy_eq (e : Engine) (page : Nat) :
    (isWiping e || programmingPage e == some page) =
      match e with
      | .idle => false
      | .programming p _ _ => p.val == page
      | .appending slot _ _ => 24 + slot.val / 4 == page
      | .wiping _ _ _ => true := by
  cases e with
  | idle => rfl
  | programming p data left => rfl
  | appending slot record left => rfl
  | wiping p left failed => rfl

/-- R193: whether the engine wipes, or programs a page of the journal. -/
theorem journalBusy_eq (e : Engine) :
    journalBusy e =
      match e with
      | .idle => false
      | .programming p _ _ => decide (24 ≤ p.val)
      | .appending _ _ _ => true
      | .wiping _ _ _ => true := by
  cases e with
  | idle => rfl
  | programming p data left => rfl
  | appending slot record left => exact decide_eq_true (Nat.le_add_right 24 _)
  | wiping p left failed => rfl

/-- R176, R181: a page is refused by the lock of its group, and a journal page always. -/
theorem pageLocked_iff (s : Store) (page : Nat) :
    pageLocked s page = true ↔
      (page = 0 ∧ s.lockConfig = true) ∨ (1 ≤ page ∧ page ≤ 8 ∧ s.lockStandin = true) ∨
        (9 ≤ page ∧ page ≤ 23 ∧ s.lockUser = true) ∨ 24 ≤ page := by
  unfold pageLocked
  split
  next config => simp [config]
  next =>
    split
    next standin => grind
    next =>
      split
      next user => grind
      next journal => simp only [true_iff]; omega

/-! ## What the commands answer (R179 to R181, R183, R184) -/

/-- R180: the checks of STORE.READ in their order, and its payload. -/
theorem cmdStoreRead_eq (page off len : Byte) (s : State) :
    cmdStoreRead [page, off, len] s =
      if 31 < page.toNat ∨ 63 < off.toNat ∨ len.toNat < 1 ∨ 24 < len.toNat ∨ 64 < off.toNat + len.toNat then fail .param s
      else if (match s.store.engine with
          | .idle => false
          | .programming p _ _ => p.val == page.toNat
          | .appending slot _ _ => 24 + slot.val / 4 == page.toNat
          | .wiping _ _ _ => true) = true then fail .busy s
      else done ((List.range len.toNat).map fun i => s.store.pages.read (64 * page.toNat + off.toNat + i)) s :=
  if_congr Iff.rfl rfl (if_congr (Bool.eq_iff_iff.1 (readBusy_eq s.store.engine page.toNat)) rfl rfl)

theorem cmdStoreLoad_format {params : List Byte} (length : params.length < 2 ∨ 17 < params.length) (s : State) :
    cmdStoreLoad params s = fail .format s := by
  cases params with
  | nil => rfl
  | cons off data => exact if_pos (by rw [List.length_cons] at length; omega)

/-- R179: STORE.LOAD of one to sixteen bytes. -/
theorem cmdStoreLoad_eq (off : Byte) {data : List Byte} (some : 1 ≤ data.length) (most : data.length ≤ 16) (s : State) :
    cmdStoreLoad (off :: data) s =
      if 63 < off.toNat ∨ 64 < off.toNat + data.length then fail .param s
      else done [] (s.setStore { s.store with buffer := s.store.buffer.writeRun off.toNat data }) :=
  if_neg (by omega)

theorem cmdStoreOpen_eq (params : List Byte) (s : State) :
    cmdStoreOpen params s = if params ≠ [] then fail .format s else done [] s := by
  cases params <;> rfl

/-- R181: the checks of STORE.PROGRAM in their order, for a page of the store. -/
theorem cmdStoreProgram_eq {page : Byte} (lt : page.toNat < 32) (s : State) :
    cmdStoreProgram [page] s =
      if ¬s.port.window.map Window.kind = some .store then fail .sequence s
      else if (page.toNat = 0 ∧ s.store.lockConfig = true) ∨
          (1 ≤ page.toNat ∧ page.toNat ≤ 8 ∧ s.store.lockStandin = true) ∨
          (9 ≤ page.toNat ∧ page.toNat ≤ 23 ∧ s.store.lockUser = true) ∨ 24 ≤ page.toNat then fail .locked s
      else if s.store.engine ≠ .idle then fail .busy s
      else done [] (s.setStore { s.store with
        engine := .programming ⟨page.toNat, lt⟩ ((List.range 64).map s.store.buffer.read) 5 }) := by
  have copy : s.store.buffer.readRun 0 64 = (List.range 64).map s.store.buffer.read := by
    simp only [Memory.readRun, Nat.zero_add]
  rw [cmdStoreProgram, dif_pos lt, copy]
  exact if_congr (not_windowOpen_iff .store s) rfl (if_congr (pageLocked_iff s.store page.toNat) rfl rfl)

theorem cmdStoreProgram_param {page : Byte} (most : ¬page.toNat < 32) (s : State) :
    cmdStoreProgram [page] s = fail .param s := dif_neg most

/-- R183: the group that a byte names joins the lock set. -/
theorem addLock_eq (b : Byte) (s : Store) :
    addLock b s =
      if 2 < b.toNat then none
      else some { s with
        lockConfig := s.lockConfig || b == 0, lockStandin := s.lockStandin || b == 1, lockUser := s.lockUser || b == 2 } := by
  unfold addLock
  by_cases config : b = 0
  · subst config
    simp
  by_cases standin : b = 1
  · subst standin
    simp
  by_cases user : b = 2
  · subst user
    simp
  rw [if_neg config, if_neg standin, if_neg user, if_pos (by bv_omega)]

theorem cmdStoreLock_eq (b : Byte) (s : State) :
    cmdStoreLock [b] s =
      if 2 < b.toNat then fail .param s
      else if (match s.store.engine with
          | .idle => false
          | .programming _ _ _ => false
          | .appending _ _ _ => false
          | .wiping _ _ _ => true) = true then fail .busy s
      else
        done [packBits [s.store.lockUser || b == 2, s.store.lockStandin || b == 1, s.store.lockConfig || b == 0]]
          (s.setStore { s.store with
            lockConfig := s.store.lockConfig || b == 0, lockStandin := s.store.lockStandin || b == 1
            lockUser := s.store.lockUser || b == 2 }) := by
  rw [cmdStoreLock, addLock_eq, isWiping_eq]
  split_ifs <;> rfl

/-- R184: the checks of STORE.WIPE in their order. -/
theorem cmdStoreWipe_eq (params : List Byte) (s : State) :
    cmdStoreWipe params s =
      if params ≠ [] then fail .format s
      else if ¬s.port.window.map Window.kind = some .store then fail .sequence s
      else if s.ward.armed = true ∨ s.stand.state ≠ .host then fail .state s
      else if s.store.engine ≠ .idle then fail .busy s
      else done [] (s.setStore { s.store with engine := .wiping 0 125 0 }) := by
  cases params with
  | cons b rest => rfl
  | nil =>
    rw [if_neg (not_not_intro rfl)]
    refine if_congr (not_windowOpen_iff .store s) rfl (if_congr ?_ rfl rfl)
    rw [Bool.or_eq_true, bne_iff_ne]

/-! ## The commands -/

section
variable {f : Frame} {s : State} (h : Served f s)
include h

/-- A command that is answered OK and sets nothing but the store. -/
theorem serveCommand_setsStore {body : List Byte → State → Reply} {payload : List Byte} {x : Store}
    (reply : body f.params (met f.pins s) = done payload ((met f.pins s).setStore x)) :
    serveCommand (plain body) f s = granted f payload ((met f.pins s).setStore x) :=
  serveCommand_done h reply (served_softPending h) rfl

/-- A command that is answered OK and changes nothing. -/
theorem serveCommand_reads {body : List Byte → State → Reply} {payload : List Byte}
    (reply : body f.params (met f.pins s) = done payload (met f.pins s)) :
    serveCommand (plain body) f s = granted f payload (met f.pins s) :=
  serveCommand_done h reply (served_softPending h) rfl

/-- R179: STORE.LOAD is an overwrite of the buffer, if its bytes stay inside it. -/
theorem storeLoad_served (canonical : MemoriesCanonical s) {off : Byte} {data : List Byte} (params : f.params = off :: data)
    (some : 1 ≤ data.length) (most : data.length ≤ 16) :
    if 63 < off.toNat ∨ 64 < off.toNat + data.length then exec (.storeLoad f) s = .next (refusedWith f .param s)
    else ∃ buffer : Memory, Overwrites s.store.buffer buffer off.toNat data ∧
      exec (.storeLoad f) s =
        .next (granted f [] ((met f.pins s).setStore { s.store with buffer := buffer })) := by
  obtain ⟨-, canonical⟩ := canonical
  have reply := (congrArg (cmdStoreLoad · (met f.pins s)) params).trans (cmdStoreLoad_eq off some most _)
  split
  next outside =>
    exact congrArg Host.Outcome.next (serveCommand_fail h (reply.trans (if_pos outside)) (by decide))
  next inside =>
    exact ⟨_, Memory.overwrites_writeRun canonical off.toNat data,
      congrArg Host.Outcome.next (serveCommand_setsStore h (reply.trans (if_neg inside)))⟩

end

/-- Settles O36, command by command. -/
theorem storeBufferAndRead : Obligations.StoreBufferAndRead := by
  unfold Obligations.StoreBufferAndRead
  intro f s h canonical
  refine ⟨fun off data params some most => storeLoad_served h canonical params some most,
    fun length => congrArg Host.Outcome.next (serveCommand_fail h (cmdStoreLoad_format length _) (by decide)),
    fun params => ⟨[], Memory.wf_nil, fun _ => rfl, congrArg Host.Outcome.next ?_⟩,
    fun params => congrArg Host.Outcome.next ?_,
    congrArg Host.Outcome.next (show serveCommand (plain cmdStoreRead) f s = _ from ?_)⟩
  · exact serveCommand_setsStore (body := cmdStoreClear) h (by rw [params]; rfl)
  · obtain ⟨b, rest, params⟩ := List.exists_cons_of_ne_nil params
    exact serveCommand_fail (body := cmdStoreClear) h (by rw [params]; rfl) (by decide)
  · split
    next page off len params =>
      have reply := (congrArg (cmdStoreRead · (met f.pins s)) params).trans (cmdStoreRead_eq page off len _)
      exact serveCommand_refuses_if h reply (by decide) fun inside =>
        serveCommand_refuses_if h inside (by decide) fun free => serveCommand_reads h free
    next other => exact serveCommand_fail h (cmdStoreRead.eq_2 _ _ other) (by decide)

/-- Settles O37, command by command, check by check. -/
theorem storeOperationsStart : Obligations.StoreOperationsStart := by
  unfold Obligations.StoreOperationsStart
  intro f s h
  refine ⟨congrArg Host.Outcome.next (show serveCommand (request .store cmdStoreOpen) f s = _ from ?_),
    congrArg Host.Outcome.next (show serveCommand (plain cmdStoreProgram) f s = _ from ?_),
    congrArg Host.Outcome.next (show serveCommand (plain cmdStoreLock) f s = _ from ?_),
    congrArg Host.Outcome.next (show serveCommand (plain cmdStoreWipe) f s = _ from ?_)⟩
  · exact serveCommand_refuses_if h (cmdStoreOpen_eq _ _) (by decide) fun form => serveCommand_opened h form
  · split
    next page params =>
      have reply := congrArg (cmdStoreProgram · (met f.pins s)) params
      split
      next lt =>
        exact serveCommand_refuses_if h (reply.trans (cmdStoreProgram_eq lt _)) (by decide) fun confirmed =>
          serveCommand_refuses_if h confirmed (by decide) fun unlocked =>
            serveCommand_refuses_if h unlocked (by decide) fun idle => serveCommand_setsStore h idle
      next most => exact serveCommand_fail h (reply.trans (cmdStoreProgram_param most _)) (by decide)
    next other => exact serveCommand_fail h (cmdStoreProgram.eq_2 _ _ other) (by decide)
  · split
    next b params =>
      have reply := (congrArg (cmdStoreLock · (met f.pins s)) params).trans (cmdStoreLock_eq b _)
      exact serveCommand_refuses_if h reply (by decide) fun named =>
        serveCommand_refuses_if h named (by decide) fun free => serveCommand_setsStore h free
    next other => exact serveCommand_fail h (cmdStoreLock.eq_2 _ _ other) (by decide)
  · exact serveCommand_refuses_if h (cmdStoreWipe_eq _ _) (by decide) fun form =>
      serveCommand_refuses_if h form (by decide) fun confirmed =>
        serveCommand_refuses_if h confirmed (by decide) fun off =>
          serveCommand_refuses_if h off (by decide) fun idle => serveCommand_setsStore h idle

end Sys2Proof.RetainedStoreAndJournal
end

section
/-! PROOFS. The journal queue and the operations of the store engine. -/

open Sys2Proof Sys2Proof.Machine Sys2Proof.TheWarden

namespace Sys2Proof.RetainedStoreAndJournal

/-! ## Appends start (R178, R189, R191) -/

/-- R191: the ring goes from slot 31 to slot 0. -/
theorem nextSlot_eq (slot : Fin 32) : slot + 1 = Fin.ofNat 32 (slot.val + 1) := Fin.ext rfl

theorem startAppend_eq (s : State) : startAppend s = appendStarted s := by
  unfold startAppend appendStarted
  cases s.store.queue with
  | nil => rfl
  | cons r rest => rw [nextSlot_eq]

theorem appendStarted_of_empty {s : State} (empty : s.store.queue = []) : appendStarted s = s := by
  rw [appendStarted, empty]

theorem appendDue_iff (s : State) : appendDue s = true ↔ s.store.engine = .idle ∧ s.store.queue ≠ [] := by
  rw [appendDue, Bool.and_eq_true, beq_iff_eq, Bool.not_eq_true', List.isEmpty_eq_false_iff]

/-- R178: an IDLE engine takes up the head of the queue, if there is one. -/
theorem takeUpJournal_eq (s : State) : takeUpJournal s = if s.store.engine = .idle then appendStarted s else s := by
  rw [takeUpJournal, startAppend_eq]
  by_cases empty : s.store.queue = []
  · rw [appendStarted_of_empty empty, ite_self, ite_self]
  · exact if_congr ((appendDue_iff s).trans (and_iff_left empty)) rfl rfl

theorem takeUpJournal_of_busy {s : State} (busy : s.store.engine ≠ .idle) : takeUpJournal s = s := by
  rw [takeUpJournal_eq, if_neg busy]

/-- R189, R178: a record is queued and perhaps appended at once, or lost to a full queue. -/
theorem queueJournal_eq (kind : JournalKind) (detail : Byte) (s : State) :
    queueJournal kind detail s =
      if 4 ≤ s.store.queue.length then
        raise .journalLoss 0 0 0 (s.setStore { s.store with journalLost := countedOnce s.store.journalLost })
      else
        takeUpJournal (s.setStore { s.store with queue := s.store.queue ++
          [{ kind := kind, detail := detail, tick := s.time.tick, ms := s.time.wardenMs, causes := s.stand.causes }] }) := by
  rw [queueJournal, ← TimebaseAndTicks.satInc_eq_countedOnce]
  split
  next room => exact (if_neg (Nat.not_le.2 room)).symm
  next full => exact (if_pos (Nat.not_lt.1 full)).symm

/-- Settles O51: queueing by the room in the queue, and the start as a row. -/
theorem journalRecordsWaitForTheEngine : Obligations.JournalRecordsWaitForTheEngine := by
  unfold Obligations.JournalRecordsWaitForTheEngine
  refine fun s => ⟨fun kind detail => ?_, congrArg Host.Outcome.next ?_⟩
  · rw [queueJournal_eq, takeUpJournal_eq]
    rfl
  · rw [← startAppend_eq]
    exact occur_eq (appendDue_iff s) startAppend s

/-! ## The engine becomes IDLE (R177, R178) -/

theorem goIdle_eq (s : State) : goIdle s = engineFreed s := by
  rw [goIdle, takeUpJournal_eq]
  exact if_pos rfl

/-- R178: an engine that has become IDLE has nothing left to take up. -/
theorem takeUpJournal_engineFreed (s : State) : takeUpJournal (engineFreed s) = engineFreed s := by
  rw [engineFreed]
  cases queue : s.store.queue with
  | nil =>
    have empty : (s.setStore { s.store with engine := .idle }).store.queue = [] := queue
    rw [appendStarted_of_empty empty, takeUpJournal_eq, appendStarted_of_empty empty, ite_self]
  | cons r rest =>
    refine takeUpJournal_of_busy ?_
    simp [appendStarted, queue]

/-- R189: a record that is queued while the engine is at work leaves it at work. -/
theorem queueJournal_engine {s : State} (busy : s.store.engine ≠ .idle) (kind : JournalKind) (detail : Byte) :
    (queueJournal kind detail s).store.engine = s.store.engine := by
  rw [queueJournal_eq]
  split
  · rfl
  · rw [takeUpJournal_of_busy]
    · rfl
    · exact busy

/-! ## What a completed write leaves (R182, R184, R191, log 10) -/

theorem flawedBytes_length (n : Nat) (data : List Byte) : (flawedBytes n data).length = data.length := by
  rw [flawedBytes, List.length_mapIdx]

theorem landedBytes_length (takes : Bool) (n : Nat) (data : List Byte) :
    (landedBytes takes n data).length = data.length := by
  rw [landedBytes]
  split
  · rfl
  · exact flawedBytes_length n data

/-- A byte that is moved by 1 to 255 is another byte. -/
theorem add_flaw_ne (x : Byte) (n : Nat) : x + byteN (1 + n % 255) ≠ x := by
  intro same
  have zero : byteN (1 + n % 255) = 0 := by simpa using same
  have value := congrArg BitVec.toNat zero
  rw [byteN, BitVec.toNat_ofNat] at value
  have bound := Nat.mod_lt n (show 0 < 255 by decide)
  change _ = 0 at value
  omega

/-- R182: bytes that failed verification differ from the data. -/
theorem flawedBytes_ne (n : Nat) {data : List Byte} (nonempty : data ≠ []) : flawedBytes n data ≠ data := by
  intro same
  have lt : Config.flawIndex n % data.length < data.length := Nat.mod_lt _ (List.length_pos_iff.2 nonempty)
  have byte := congrArg (·[Config.flawIndex n % data.length]?) same
  simp only [flawedBytes, List.getElem?_mapIdx, List.getElem?_eq_getElem lt, Option.map_some, if_true,
    Option.some.injEq] at byte
  exact add_flaw_ne _ _ byte

theorem landedBytes_eq_iff (takes : Bool) (n : Nat) {data : List Byte} (nonempty : data ≠ []) :
    landedBytes takes n data = data ↔ takes = true := by
  cases takes with
  | true => exact iff_of_true rfl rfl
  | false => exact iff_of_false (flawedBytes_ne n nonempty) Bool.false_ne_true

/-- The pages that a completed write of some data at an address leaves, with erased bytes behind the data. -/
def pagesLanded (takes : Bool) (base : Nat) (data : List Byte) (erasedBehind : Nat) (s : State) : Memory :=
  s.store.pages.writeRun base (landedBytes takes s.free data ++ List.replicate erasedBehind erasedByte)

theorem land_eq (takes : Bool) (base : Nat) (data : List Byte) (erasedBehind : Nat) (s : State) :
    land takes base data erasedBehind s =
      (s.setStore { s.store with pages := pagesLanded takes base data erasedBehind s }).useFree := rfl

/-- R182, R184: a completed write without erased bytes behind it changes its own addresses alone. -/
theorem pagesLanded_overwrites {s : State} (canonical : MemoriesCanonical s) (takes : Bool) (base : Nat) (data : List Byte) :
    Overwrites s.store.pages (pagesLanded takes base data 0 s) base (landedBytes takes s.free data) := by
  obtain ⟨canonical, -⟩ := canonical
  rw [pagesLanded, List.replicate_zero, List.append_nil]
  exact Memory.overwrites_writeRun canonical base _

/-! ## The endings, in the words of the statements (R182, R184, R189, R191) -/

/-- Two numbers that each fit one byte, as a detail of two bytes. -/
theorem halfN_eq {hi lo : Nat} (hiLt : hi < 256) (loLt : lo < 256) : halfN (256 * hi + lo) = byteN hi ++ byteN lo := by
  rw [← halfN_bytes, byteN, byteN, BitVec.toNat_ofNat, BitVec.toNat_ofNat, Nat.mod_eq_of_lt hiLt, Nat.mod_eq_of_lt loLt]

theorem wantEvaluation_eq (s : State) : wantEvaluation s = evaluationWanted s := by
  rw [wantEvaluation, evaluateBanks_eq, evaluationWanted]

/-- R182: the details of STORE_DONE and STORE_FAULT after a program. -/
theorem endProgram_eq (page : Fin 32) (data : List Byte) (takes : Bool) (s : State) :
    endProgram page data takes s = programEnded page takes (pagesLanded takes (pageBase page.val) data 0 s) s := by
  have done : halfN (256 * page.val + (!takes).toNat) = byteN page.val ++ (if takes = true then 0x00 else 0x01 : Byte) := by
    rw [halfN_eq (by omega) (Bool.toNat_lt _ |>.trans (by decide))]
    cases takes <;> rfl
  have fault : halfN page.val = (0x00 : Byte) ++ byteN page.val := by
    have split := halfN_eq (hi := 0) (lo := page.val) (by decide) (by omega)
    rwa [Nat.mul_zero, Nat.zero_add] at split
  rw [endProgram, programEnded]
  simp only [land_eq, done, fault, wantEvaluation_eq, goIdle_eq]

/-- R191: the detail of STORE_FAULT after an append. -/
theorem endAppend_eq (slot : Fin 32) (record : List Byte) (takes : Bool) (s : State) :
    endAppend slot record takes s =
      appendEnded slot takes (pagesLanded takes (slotBase slot.val) record (if slot.val % 4 = 0 then 48 else 0) s) s := by
  have fault : halfN (256 + 24 + slot.val / 4) = (0x01 : Byte) ++ byteN (24 + slot.val / 4) := by
    rw [Nat.add_assoc]
    exact halfN_eq (hi := 1) (by decide) (by omega)
  rw [endAppend, appendEnded]
  simp only [land_eq, fault, goIdle_eq]

/-- R184 step 1: the detail of STORE_FAULT after an erase, and the pages that failed. -/
theorem endWipeStep_eq {page : Nat} (lt : page < 24) (left failed : Nat) (takes : Bool) (s : State) :
    endWipeStep page left failed takes s =
      eraseEnded page left failed takes (pagesLanded takes (pageBase page) erasedPage 0 s) s := by
  have fault : halfN (256 * 2 + page) = (0x02 : Byte) ++ byteN page := halfN_eq (by decide) (by omega)
  have count : failed + (!takes).toNat = if takes = true then failed else failed + 1 := by cases takes <;> rfl
  rw [endWipeStep, eraseEnded, fault, land_eq, count]
  rfl

/-- R184 step 2: the detail of STORE_DONE after a wipe. -/
theorem endWipe_eq (failed : Nat) (s : State) : endWipe failed s = wipeEnded failed s := by
  have done : halfN (256 * 255 + (failed != 0).toNat) = (0xFF : Byte) ++ (if failed = 0 then 0x00 else 0x01 : Byte) := by
    rw [halfN_eq (by decide) (Bool.toNat_lt _ |>.trans (by decide))]
    by_cases none : failed = 0
    · rw [none]
      rfl
    · rw [if_neg none, bne_iff_ne.2 none]
      rfl
  rw [endWipe, wipeEnded]
  simp only [done, wantEvaluation_eq, goIdle_eq]

/-- R184: between two erases the engine goes on wiping, so no record is taken up. -/
theorem takeUpJournal_eraseEnded (page left failed : Nat) (takes : Bool) (pages : Memory) (s : State) :
    takeUpJournal (eraseEnded page left failed takes pages s) = eraseEnded page left failed takes pages s := by
  refine takeUpJournal_of_busy ?_
  rw [eraseEnded]
  split
  · exact Engine.noConfusion
  · rw [queueJournal_engine Engine.noConfusion]
    exact Engine.noConfusion

/-! ## The last event of each operation (R177) -/

section
variable {s : State} {left : Nat}

theorem programDue_iff {page : Fin 32} {data : List Byte} (engine : s.store.engine = .programming page data left) :
    programDue s = true ↔ left ≤ 1 := by
  rw [programDue, engine]
  exact decide_eq_true_iff

theorem appendEnds_iff {slot : Fin 32} {record : List Byte} (engine : s.store.engine = .appending slot record left) :
    appendEnds s = true ↔ left ≤ 1 := by
  rw [appendEnds, engine]
  exact decide_eq_true_iff

theorem wipeStepDue_iff {page failed : Nat} (engine : s.store.engine = .wiping page left failed) :
    wipeStepDue s = true ↔ page < 24 ∧ (left - 1) % 5 = 0 := by
  simp only [wipeStepDue, engine, Bool.and_eq_true, decide_eq_true_eq, beq_iff_eq]

theorem wipeDue_iff {page failed : Nat} (engine : s.store.engine = .wiping page left failed) :
    wipeDue s = true ↔ 24 ≤ page ∧ left ≤ 1 := by
  simp only [wipeDue, engine, Bool.and_eq_true, decide_eq_true_eq]

/-- R177: an event of a program: the last, or one before it. -/
theorem advanceStore_programming {page : Fin 32} {data : List Byte} (engine : s.store.engine = .programming page data left)
    (takes : Bool) :
    advanceStore takes s =
      if left ≤ 1 then endProgram page data takes s
      else s.setStore { s.store with engine := .programming page data (left - 1) } := by
  have complete : programComplete takes s = endProgram page data takes s := by rw [programComplete, engine]
  have others : appendEnds s = false ∧ wipeStepDue s = false ∧ wipeDue s = false := by
    simp only [appendEnds, wipeStepDue, wipeDue, engine, and_self]
  obtain ⟨append, erase, wipe⟩ := others
  rw [advanceStore, complete, append, erase, wipe, engine]
  exact if_congr (programDue_iff engine) rfl rfl

/-- R177: an event of an append: the last, or one before it. -/
theorem advanceStore_appending {slot : Fin 32} {record : List Byte} (engine : s.store.engine = .appending slot record left)
    (takes : Bool) :
    advanceStore takes s =
      if left ≤ 1 then endAppend slot record takes s
      else s.setStore { s.store with engine := .appending slot record (left - 1) } := by
  have complete : appendComplete takes s = endAppend slot record takes s := by rw [appendComplete, engine]
  have others : programDue s = false ∧ wipeStepDue s = false ∧ wipeDue s = false := by
    simp only [programDue, wipeStepDue, wipeDue, engine, and_self]
  obtain ⟨program, erase, wipe⟩ := others
  rw [advanceStore, complete, program, erase, wipe, if_neg Bool.false_ne_true, engine]
  exact if_congr (appendEnds_iff engine) rfl rfl

/-- R177, R184: an event of a wipe: the last of an erase, the last of the lock phase, or one before them. -/
theorem advanceStore_wiping {page failed : Nat} (engine : s.store.engine = .wiping page left failed) (takes : Bool) :
    advanceStore takes s =
      if page < 24 ∧ (left - 1) % 5 = 0 then endWipeStep page left failed takes s
      else if 24 ≤ page ∧ left ≤ 1 then endWipe failed s
      else s.setStore { s.store with engine := .wiping page (left - 1) failed } := by
  have erase : wipeStepComplete takes s = endWipeStep page left failed takes s := by rw [wipeStepComplete, engine]
  have wipe : wipeComplete s = endWipe failed s := by rw [wipeComplete, engine]
  have others : programDue s = false ∧ appendEnds s = false := by simp only [programDue, appendEnds, engine, and_self]
  obtain ⟨program, append⟩ := others
  rw [advanceStore, erase, wipe, program, append, if_neg Bool.false_ne_true, if_neg Bool.false_ne_true, engine]
  exact if_congr (wipeStepDue_iff engine) rfl (if_congr (wipeDue_iff engine) rfl rfl)

end

/-! ## Step 7 and the rows (R38, R177, log 5) -/

theorem storeStep_true (takes : Bool) (s : State) : storeStep true takes s = takeUpJournal (advanceStore takes s) := rfl

theorem storeStep_false (takes : Bool) (s : State) : storeStep false takes s = takeUpJournal s := rfl

/-- Step 7 when the event ends an operation and leaves nothing to take up. -/
theorem storeStep_of_end {takes : Bool} {s t : State} (advance : advanceStore takes s = t) (taken : takeUpJournal t = t) :
    storeStep true takes s = t := by rw [storeStep_true, advance, taken]

/-- Step 7 when the event only counts one off. -/
theorem storeStep_of_countDown {takes : Bool} {s : State} {e : Engine} (busy : e ≠ .idle)
    (advance : advanceStore takes s = s.setStore { s.store with engine := e }) :
    storeStep true takes s = s.setStore { s.store with engine := e } :=
  storeStep_of_end advance (takeUpJournal_of_busy busy)

/-- The end of an operation, as step 7 and as a row of its own on a ready port (log 5). -/
theorem ends_of_due {due takes : Bool} {effect : State → State} {s t : State} (ready : s.sys.phase = .ready)
    (isDue : due = true) (advance : advanceStore takes s = t) (ends : effect s = t) (taken : takeUpJournal t = t) :
    settle (storeStep true takes s) = settle t ∧
      (Host.Outcome.next (occur due effect s) : Host.Outcome State Fault Refusal) = .next (settle t) := by
  rw [storeStep_of_end advance taken, occur_eq (cond := due = true) Iff.rfl, if_pos ⟨ready, isDue⟩, ends]
  exact ⟨rfl, rfl⟩

theorem occur_of_not_due {due : Bool} {effect : State → State} {s : State} (notDue : ¬due = true) :
    occur due effect s = s := by
  rw [occur_eq (cond := due = true) Iff.rfl, if_neg fun h => notDue h.2]

section
variable {s : State} {left : Nat} (ready : s.sys.phase = .ready) (canonical : MemoriesCanonical s) (takes : Bool)
include ready canonical

/-- R182: the last event of a program. -/
theorem program_ends {page : Fin 32} {data : List Byte} (engine : s.store.engine = .programming page data left)
    (nonempty : data ≠ []) (last : left ≤ 1) :
    ∃ (bytes : List Byte) (pages : Memory), bytes.length = data.length ∧ (bytes = data ↔ takes = true) ∧
      Overwrites s.store.pages pages (64 * page.val) bytes ∧
      settle (storeStep true takes s) = settle (programEnded page takes pages s) ∧
      exec (.storeProgramComplete takes) s = .next (settle (programEnded page takes pages s)) := by
  have ends := endProgram_eq page data takes s
  have advance := (advanceStore_programming engine takes).trans (if_pos last)
  have complete : programComplete takes s = endProgram page data takes s := by rw [programComplete, engine]
  exact ⟨landedBytes takes s.free data, pagesLanded takes (pageBase page.val) data 0 s, landedBytes_length takes _ data,
    landedBytes_eq_iff takes _ nonempty, pagesLanded_overwrites canonical takes _ data,
    ends_of_due ready ((programDue_iff engine).2 last) (advance.trans ends) (complete.trans ends)
      (takeUpJournal_engineFreed _)⟩

/-- R189, R191: the last event of an append; a record in the first slot of a page leaves erased bytes behind it. -/
theorem append_ends {slot : Fin 32} {record : List Byte} (engine : s.store.engine = .appending slot record left)
    (length : record.length = 16) (last : left ≤ 1) :
    ∃ (bytes : List Byte) (pages : Memory), bytes.length = 16 ∧ (bytes = record ↔ takes = true) ∧
      Overwrites s.store.pages pages (64 * (24 + slot.val / 4) + 16 * (slot.val % 4))
        (List.append bytes (if slot.val % 4 = 0 then List.replicate 48 0xFF else [])) ∧
      settle (storeStep true takes s) = settle (appendEnded slot takes pages s) ∧
      exec (.journalAppendComplete takes) s = .next (settle (appendEnded slot takes pages s)) := by
  have ends := endAppend_eq slot record takes s
  have nonempty : record ≠ [] := List.ne_nil_of_length_pos (by omega)
  have behind : List.replicate (if slot.val % 4 = 0 then 48 else 0) erasedByte =
      if slot.val % 4 = 0 then List.replicate 48 0xFF else [] := by split <;> rfl
  have advance := (advanceStore_appending engine takes).trans (if_pos last)
  have complete : appendComplete takes s = endAppend slot record takes s := by rw [appendComplete, engine]
  refine ⟨landedBytes takes s.free record, pagesLanded takes (slotBase slot.val) record (if slot.val % 4 = 0 then 48 else 0) s,
    (landedBytes_length takes _ record).trans length, landedBytes_eq_iff takes _ nonempty, ?_,
    ends_of_due ready ((appendEnds_iff engine).2 last) (advance.trans ends) (complete.trans ends)
      (takeUpJournal_engineFreed _)⟩
  rw [← behind]
  exact Memory.overwrites_writeRun canonical.1 (slotBase slot.val) _

/-- R184 step 1: the last event of an erase. -/
theorem erase_ends {page failed : Nat} (engine : s.store.engine = .wiping page left failed) (lt : page < 24)
    (last : (left - 1) % 5 = 0) :
    ∃ (bytes : List Byte) (pages : Memory), bytes.length = 64 ∧ (bytes = List.replicate 64 0xFF ↔ takes = true) ∧
      Overwrites s.store.pages pages (64 * page) bytes ∧
      settle (storeStep true takes s) = settle (eraseEnded page left failed takes pages s) ∧
      exec (.wipeStepComplete takes) s = .next (settle (eraseEnded page left failed takes pages s)) := by
  have ends := endWipeStep_eq lt left failed takes s
  have advance := (advanceStore_wiping engine takes).trans (if_pos ⟨lt, last⟩)
  have complete : wipeStepComplete takes s = endWipeStep page left failed takes s := by rw [wipeStepComplete, engine]
  exact ⟨landedBytes takes s.free erasedPage, pagesLanded takes (pageBase page) erasedPage 0 s,
    landedBytes_length takes _ erasedPage, landedBytes_eq_iff takes _ (List.ne_nil_of_length_pos (by decide)),
    pagesLanded_overwrites canonical takes _ erasedPage,
    ends_of_due ready ((wipeStepDue_iff engine).2 ⟨lt, last⟩) (advance.trans ends) (complete.trans ends)
      (takeUpJournal_eraseEnded ..)⟩

omit canonical in
/-- R184 step 2: the last event of the lock phase. -/
theorem wipe_ends {page failed : Nat} (engine : s.store.engine = .wiping page left failed) (lockPhase : 24 ≤ page)
    (last : left ≤ 1) :
    settle (storeStep true takes s) = settle (wipeEnded failed s) ∧
      exec .wipeComplete s = .next (settle (wipeEnded failed s)) := by
  have ends := endWipe_eq failed s
  have advance := ((advanceStore_wiping engine takes).trans (if_neg (by omega))).trans (if_pos ⟨lockPhase, last⟩)
  have complete : wipeComplete s = endWipe failed s := by rw [wipeComplete, engine]
  exact ends_of_due ready ((wipeDue_iff engine).2 ⟨lockPhase, last⟩) (advance.trans ends) (complete.trans ends)
    (takeUpJournal_engineFreed _)

end

section
variable {s : State} (takes : Bool)

/-- R177: an event of a program before its last. -/
theorem program_goesOn {page : Fin 32} {data : List Byte} {left : Nat}
    (engine : s.store.engine = .programming page data (left + 2)) :
    exec (.storeProgramComplete takes) s = .next s ∧
      storeStep true takes s = s.setStore { s.store with engine := .programming page data (left + 1) } := by
  have notLast : ¬left + 2 ≤ 1 := by omega
  refine ⟨congrArg Host.Outcome.next (occur_of_not_due (mt (programDue_iff engine).1 notLast)),
    storeStep_of_countDown Engine.noConfusion ?_⟩
  rw [advanceStore_programming engine, if_neg notLast]
  rfl

/-- R177: an event of an append before its last. -/
theorem append_goesOn {slot : Fin 32} {record : List Byte} {left : Nat}
    (engine : s.store.engine = .appending slot record (left + 2)) :
    exec (.journalAppendComplete takes) s = .next s ∧
      storeStep true takes s = s.setStore { s.store with engine := .appending slot record (left + 1) } := by
  have notLast : ¬left + 2 ≤ 1 := by omega
  refine ⟨congrArg Host.Outcome.next (occur_of_not_due (mt (appendEnds_iff engine).1 notLast)),
    storeStep_of_countDown Engine.noConfusion ?_⟩
  rw [advanceStore_appending engine, if_neg notLast]
  rfl

/-- R177, R184: an event of a wipe that is not the last of an erase or of the lock phase. -/
theorem wipe_goesOn {page left failed : Nat} (engine : s.store.engine = .wiping page left failed)
    (goesOn : if page < 24 then (left - 1) % 5 ≠ 0 else 2 ≤ left) :
    exec (.wipeStepComplete takes) s = .next s ∧ exec .wipeComplete s = .next s ∧
      storeStep true takes s = s.setStore { s.store with engine := .wiping page (left - 1) failed } := by
  have notErased : ¬(page < 24 ∧ (left - 1) % 5 = 0) := by split at goesOn <;> omega
  have notWiped : ¬(24 ≤ page ∧ left ≤ 1) := by split at goesOn <;> omega
  refine ⟨congrArg Host.Outcome.next (occur_of_not_due (mt (wipeStepDue_iff engine).1 notErased)),
    congrArg Host.Outcome.next (occur_of_not_due (mt (wipeDue_iff engine).1 notWiped)),
    storeStep_of_countDown Engine.noConfusion ?_⟩
  rw [advanceStore_wiping engine, if_neg notErased, if_neg notWiped]

end

/-- R38 step 7: an event that began with an IDLE engine only takes up the queue. -/
theorem storeStep_false_of_journalSound {s : State} (sound : JournalSound s) (takes : Bool) : storeStep false takes s = s := by
  obtain ⟨-, empty⟩ := sound
  rw [storeStep_false, takeUpJournal_eq]
  split
  next idle => exact appendStarted_of_empty (empty idle)
  next => rfl

/-- Settles O52, operation by operation. -/
theorem storeOperationsComplete : Obligations.StoreOperationsComplete := by
  unfold Obligations.StoreOperationsComplete
  intro takes s ready canonical
  exact ⟨fun _ _ _ engine nonempty last => program_ends ready canonical takes engine nonempty last,
    fun _ _ _ engine length last => append_ends ready canonical takes engine length last,
    fun _ _ _ engine lt last => erase_ends ready canonical takes engine lt last,
    fun _ _ _ engine lockPhase last => wipe_ends ready takes engine lockPhase last,
    fun _ _ _ engine => program_goesOn takes engine,
    fun _ _ _ engine => append_goesOn takes engine,
    fun _ _ _ engine goesOn => wipe_goesOn takes engine goesOn,
    (storeStep_false takes s).trans (takeUpJournal_eq s),
    fun sound => storeStep_false_of_journalSound sound takes⟩

end Sys2Proof.RetainedStoreAndJournal
end

section
/-! PROOFS. The ring of journal records, and STORE.JOURNAL. -/

open Sys2Proof Sys2Proof.Machine Sys2Proof.TimebaseAndTicks Sys2Proof.TheWarden

namespace Sys2Proof.RetainedStoreAndJournal

/-! ## The valid slots and the newest (R190, R192) -/

theorem mem_validSlots {m : Memory} {k : Nat} : k ∈ validSlots m ↔ k < 32 ∧ slotValid (slotBytes m k) = true := by
  rw [validSlots, List.mem_filter, List.mem_range]

theorem validSlots_ascending (m : Memory) : (validSlots m).Pairwise (· < ·) := List.pairwise_lt_range.filter _

theorem slotValid_iff (p : List Byte) : slotValid p = true ↔ byteAt p 2 ≠ 0xFF ∧ byteAt p 15 = crc8 (p.take 15) := by
  rw [slotValid, Bool.and_eq_true, bne_iff_ne, beq_iff_eq]

/-- R192: the newest slot is the first that is newer than the greatest number of others. -/
theorem newestSlot_eq_argmax (m : Memory) :
    newestSlot m = (validSlots m).argmax (newerCount m (validSlots m)) := by
  refine congrArg (List.foldl · none (validSlots m)) ?_
  funext best k
  cases best <;> rfl

/-- R192: how many of some slots a slot is newer than, by the sequences of their records. -/
theorem newerCount_eq (m : Memory) (slots : List Nat) (k : Nat) :
    newerCount m slots k = slots.countP fun j =>
      decide (1 ≤ (recordSeq (slotBytes m k) - recordSeq (slotBytes m j)).toNat ∧
        (recordSeq (slotBytes m k) - recordSeq (slotBytes m j)).toNat ≤ 32767) :=
  congrArg slots.countP (funext fun _ => (Bool.decide_and ..).symm)

theorem newestSlot_eq_none {m : Memory} : newestSlot m = none ↔ validSlots m = [] := by
  rw [newestSlot_eq_argmax, List.argmax_eq_none]

theorem newestSlot_mem {m : Memory} {newest : Nat} (h : newestSlot m = some newest) : newest ∈ validSlots m :=
  List.argmax_mem (newestSlot_eq_argmax m ▸ h)

/-- In an ascending list, what stands first is the lesser. -/
theorem le_of_idxOf_le {l : List Nat} (ascending : l.Pairwise (· < ·)) {a b : Nat} (ha : a ∈ l) (hb : b ∈ l)
    (first : l.idxOf a ≤ l.idxOf b) : a ≤ b := by
  have la := List.idxOf_lt_length_of_mem ha
  have lb := List.idxOf_lt_length_of_mem hb
  rcases first.lt_or_eq with before | same
  · have lt := List.pairwise_iff_getElem.1 ascending _ _ la lb before
    rw [List.getElem_idxOf, List.getElem_idxOf] at lt
    exact lt.le
  · exact ((List.idxOf_inj ha).1 same).le

/-- R192: every other valid slot is newer than fewer, or than as many and is a higher slot. -/
theorem newestSlot_first {m : Memory} {newest k : Nat} (h : newestSlot m = some newest) (valid : k ∈ validSlots m)
    (other : k ≠ newest) :
    newerCount m (validSlots m) k < newerCount m (validSlots m) newest ∨
      (newerCount m (validSlots m) k = newerCount m (validSlots m) newest ∧ newest < k) := by
  have max : newest ∈ (validSlots m).argmax (newerCount m (validSlots m)) := newestSlot_eq_argmax m ▸ h
  rcases (List.le_of_mem_argmax valid max).lt_or_eq with fewer | equal
  · exact .inl fewer
  · have first := List.index_of_argmax max valid equal.ge
    have le := le_of_idxOf_le (validSlots_ascending m) (newestSlot_mem h) valid first
    exact .inr ⟨equal, lt_of_le_of_ne le other.symm⟩

/-! ## The order by age (R193) -/

/-- R193: a slot comes before another: its record is younger, or as old and its slot the lower. -/
def Younger (m : Memory) (newest j k : Nat) : Prop :=
  ageOf m newest j < ageOf m newest k ∨ (ageOf m newest j = ageOf m newest k ∧ j < k)

theorem insertByAge_perm (m : Memory) (newest k : Nat) (l : List Nat) : (insertByAge m newest k l).Perm (k :: l) := by
  induction l with
  | nil => exact .refl _
  | cons j rest ih =>
    rw [insertByAge]
    split
    · exact (ih.cons j).trans (.swap k j rest)
    · exact .refl _

/-- A slot above all others of a sorted list is put in its place. -/
theorem insertByAge_sorted {m : Memory} {newest k : Nat} {l : List Nat} (below : ∀ j ∈ l, j < k)
    (sorted : l.Pairwise (Younger m newest)) : (insertByAge m newest k l).Pairwise (Younger m newest) := by
  induction l with
  | nil => exact List.pairwise_singleton ..
  | cons j rest ih =>
    obtain ⟨head, tail⟩ := List.pairwise_cons.1 sorted
    have lt : j < k := below j List.mem_cons_self
    rw [insertByAge]
    split
    next behind =>
      refine List.pairwise_cons.2 ⟨fun x hx => ?_, ih (fun i hi => below i (List.mem_cons_of_mem j hi)) tail⟩
      rcases List.mem_cons.1 ((insertByAge_perm m newest k rest).mem_iff.1 hx) with rfl | hx
      · exact behind.lt_or_eq.imp_right (⟨·, lt⟩)
      · exact head x hx
    next before =>
      refine List.pairwise_cons.2 ⟨fun x hx => .inl ?_, sorted⟩
      rcases List.mem_cons.1 hx with rfl | hx
      · exact Nat.not_le.1 before
      · rcases head x hx with younger | ⟨same, -⟩
        · exact (Nat.not_le.1 before).trans younger
        · exact same ▸ Nat.not_le.1 before

/-- Ascending slots, put one by one behind those of the same or a smaller age. -/
theorem foldl_insertByAge (m : Memory) (newest : Nat) {slots : List Nat} (ascending : slots.Pairwise (· < ·)) {sorted : List Nat}
    (below : ∀ j ∈ sorted, ∀ k ∈ slots, j < k) (h : sorted.Pairwise (Younger m newest)) :
    (slots.foldl (fun acc k => insertByAge m newest k acc) sorted).Perm (slots ++ sorted) ∧
      (slots.foldl (fun acc k => insertByAge m newest k acc) sorted).Pairwise (Younger m newest) := by
  induction slots generalizing sorted with
  | nil => exact ⟨.refl _, h⟩
  | cons k slots ih =>
    obtain ⟨above, ascending⟩ := List.pairwise_cons.1 ascending
    have inserted := insertByAge_perm m newest k sorted
    have belowAll : ∀ j ∈ insertByAge m newest k sorted, ∀ i ∈ slots, j < i := by
      intro j hj i hi
      rcases List.mem_cons.1 (inserted.mem_iff.1 hj) with rfl | hj
      · exact above i hi
      · exact below j hj i (List.mem_cons_of_mem k hi)
    obtain ⟨perm, pairwise⟩ := ih ascending belowAll
      (insertByAge_sorted (fun j hj => below j hj k List.mem_cons_self) h)
    exact ⟨perm.trans ((inserted.append_left slots).trans List.perm_middle), pairwise⟩

theorem slotsByAge_of_none {m : Memory} (h : newestSlot m = none) : slotsByAge m = [] := by rw [slotsByAge, h]

/-- R193: the slots from the newest, the others sorted. -/
theorem slotsByAge_of_newest {m : Memory} {newest : Nat} (h : newestSlot m = some newest) :
    ∃ rest, slotsByAge m = newest :: rest ∧ rest.Perm ((validSlots m).filter fun k => k != newest) ∧
      rest.Pairwise (Younger m newest) := by
  have others := foldl_insertByAge m newest ((validSlots_ascending m).filter fun k => k != newest)
    (sorted := []) (fun _ h => absurd h List.not_mem_nil) .nil
  rw [List.append_nil] at others
  exact ⟨_, by rw [slotsByAge, h], others⟩

/-- R193: the slots of STORE.JOURNAL are the valid slots, in another order. -/
theorem slotsByAge_perm (m : Memory) : (slotsByAge m).Perm (validSlots m) := by
  cases h : newestSlot m with
  | none =>
    rw [slotsByAge_of_none h, newestSlot_eq_none.1 h]
  | some newest =>
    obtain ⟨rest, slots, perm, -⟩ := slotsByAge_of_newest h
    have nodup : (validSlots m).Nodup := (validSlots_ascending m).imp fun lt => lt.ne
    rw [slots]
    refine (perm.cons newest).trans ?_
    rw [← nodup.erase_eq_filter newest]
    exact (List.perm_cons_erase (newestSlot_mem h)).symm

theorem slotsByAge_nodup (m : Memory) : (slotsByAge m).Nodup :=
  (slotsByAge_perm m).nodup_iff.2 ((validSlots_ascending m).imp fun lt => lt.ne)

/-- R192: how many a slot is newer than does not depend on their order. -/
theorem newerCount_slotsByAge (m : Memory) (k : Nat) :
    newerCount m (slotsByAge m) k = newerCount m (validSlots m) k := (slotsByAge_perm m).countP_eq _

/-- R192, R193: the first slot is the newest, and the others follow by age. -/
theorem slotsByAge_cons {m : Memory} {newest : Nat} {rest : List Nat} (slots : slotsByAge m = newest :: rest) :
    newestSlot m = some newest ∧
    (∀ k ∈ rest, newerCount m (slotsByAge m) k < newerCount m (slotsByAge m) newest ∨
      (newerCount m (slotsByAge m) k = newerCount m (slotsByAge m) newest ∧ newest < k)) ∧
    rest.Pairwise (Younger m newest) := by
  cases h : newestSlot m with
  | none => exact absurd ((slotsByAge_of_none h).symm.trans slots) (List.cons_ne_nil _ _).symm
  | some first =>
    obtain ⟨others, ordered, perm, sorted⟩ := slotsByAge_of_newest h
    obtain ⟨rfl, rfl⟩ := List.cons.inj (slots.symm.trans ordered)
    refine ⟨rfl, fun k hk => ?_, sorted⟩
    obtain ⟨valid, other⟩ := List.mem_filter.1 (perm.mem_iff.1 hk)
    rw [newerCount_slotsByAge, newerCount_slotsByAge]
    exact newestSlot_first h valid (bne_iff_ne.1 other)

/-- R192: the scan of the ring goes on from the first of the slots by age. -/
theorem scanRing_eq (m : Memory) :
    scanRing m =
      match slotsByAge m with
      | [] => (0, 0)
      | newest :: _ => (Fin.ofNat 32 (newest + 1), recordSeq (slotBytes m newest) + 1) := by
  cases h : newestSlot m with
  | none => rw [scanRing, h, slotsByAge_of_none h]
  | some newest =>
    obtain ⟨rest, slots, -⟩ := slotsByAge_of_newest h
    rw [scanRing, h, slots]

/-! ## The command (R193) -/

/-- R193: the checks of STORE.JOURNAL in their order, and its payload. -/
theorem cmdStoreJournal_eq (index : Byte) (s : State) :
    cmdStoreJournal [index] s =
      if 31 < index.toNat then fail .param s
      else if (match s.store.engine with
          | .idle => false
          | .programming p _ _ => decide (24 ≤ p.val)
          | .appending _ _ _ => true
          | .wiping _ _ _ => true) = true then fail .busy s
      else match (slotsByAge s.store.pages)[index.toNat]? with
        | none => done [0x00, byteN (slotsByAge s.store.pages).length] s
        | some k =>
          done ([0x01, byteN (slotsByAge s.store.pages).length] ++ slotBytes s.store.pages k) s :=
  if_congr Iff.rfl rfl (if_congr (Bool.eq_iff_iff.1 (journalBusy_eq s.store.engine)) rfl rfl)

theorem cmdStoreJournal_format {params : List Byte} (length : params.length ≠ 1) (s : State) :
    cmdStoreJournal params s = fail .format s := by
  rw [cmdStoreJournal.eq_2]
  rintro b rfl
  exact length rfl

/-- R193: STORE.JOURNAL, served. -/
theorem storeJournal_served {f : Frame} {s : State} (h : Served f s) {index : Byte} (params : f.params = [index]) :
    exec (.storeJournal f) s =
      .next (if 31 < index.toNat then refusedWith f .param s
        else if (match s.store.engine with
            | .idle => false
            | .programming p _ _ => decide (24 ≤ p.val)
            | .appending _ _ _ => true
            | .wiping _ _ _ => true) = true then refusedWith f .busy s
        else match (slotsByAge s.store.pages)[index.toNat]? with
          | none => granted f [0x00, byteN (slotsByAge s.store.pages).length] (met f.pins s)
          | some k =>
            granted f ([0x01, byteN (slotsByAge s.store.pages).length] ++ slotBytes s.store.pages k) (met f.pins s)) := by
  have reply := (congrArg (cmdStoreJournal · (met f.pins s)) params).trans (cmdStoreJournal_eq index _)
  refine congrArg Host.Outcome.next (serveCommand_refuses_if h reply (by decide) fun named =>
    serveCommand_refuses_if h named (by decide) fun free => ?_)
  change _ = match (slotsByAge s.store.pages)[index.toNat]? with | none => _ | some k => _ at free
  cases slot : (slotsByAge s.store.pages)[index.toNat]? with
  | none =>
    rw [slot] at free
    exact serveCommand_reads h free
  | some k =>
    rw [slot] at free
    exact serveCommand_reads h free

/-- Settles O38: the slots are those of `slotsByAge`. -/
theorem storeJournalReadsFromTheNewest : Obligations.StoreJournalReadsFromTheNewest := by
  unfold Obligations.StoreJournalReadsFromTheNewest
  intro f s h
  refine ⟨fun length => congrArg Host.Outcome.next (serveCommand_fail h (cmdStoreJournal_format length _) (by decide)),
    fun index params => ?_⟩
  refine ⟨slotsByAge s.store.pages, slotsByAge_nodup _, fun k => ?_, fun newest rest slots => ?_,
    scanRing_eq _, storeJournal_served h params⟩
  · rw [(slotsByAge_perm _).mem_iff, mem_validSlots, slotValid_iff]
    rfl
  · obtain ⟨-, first, sorted⟩ := slotsByAge_cons slots
    simp only [newerCount_eq] at first
    exact ⟨first, sorted⟩

end Sys2Proof.RetainedStoreAndJournal
end

section
/-! PROOFS. Bytes that stand in a page or a bank, and a check code behind them. -/

open Sys2Proof Sys2Proof.Machine Sys2Proof.TheCueTable

namespace Sys2Proof.RetainedStoreAndJournal

/-! ## Bytes from an offset on -/

/-- Some bytes stand in a page, a bank or a record from an offset on. -/
def StandAt (p : List Byte) (start : Nat) (bytes : List Byte) : Prop :=
  ∀ k, k < bytes.length → byteAt p (start + k) = byteAt bytes k

theorem byteAt_append_left {a : List Byte} (b : List Byte) {k : Nat} (lt : k < a.length) :
    byteAt (a ++ b) k = byteAt a k := List.getD_append _ _ _ _ lt

theorem byteAt_append_right (a b : List Byte) (k : Nat) : byteAt (a ++ b) (a.length + k) = byteAt b k := by
  rw [byteAt, List.getD_append_right _ _ _ _ (Nat.le_add_right ..), Nat.add_sub_cancel_left, byteAt]

theorem byteAt_append_last (a : List Byte) (b : Byte) : byteAt (a ++ [b]) a.length = b := byteAt_append_right a [b] 0

theorem standAt_nil (p : List Byte) (start : Nat) : StandAt p start [] := fun _ lt => absurd lt (Nat.not_lt_zero _)

theorem standAt_append {p : List Byte} {start : Nat} {a b : List Byte} :
    StandAt p start (a ++ b) ↔ StandAt p start a ∧ StandAt p (start + a.length) b := by
  constructor
  · intro h
    constructor
    · intro k lt
      rw [h k (by rw [List.length_append]; omega), byteAt_append_left b lt]
    · intro k lt
      rw [Nat.add_assoc, h (a.length + k) (by rw [List.length_append]; omega), byteAt_append_right]
  · rintro ⟨first, second⟩ k lt
    rw [List.length_append] at lt
    by_cases inFirst : k < a.length
    · rw [first k inFirst, byteAt_append_left b inFirst]
    · obtain ⟨j, rfl⟩ : ∃ j, k = a.length + j := ⟨k - a.length, by omega⟩
      rw [← Nat.add_assoc, second j (by omega), byteAt_append_right]

theorem standAt_singleton {p : List Byte} {start : Nat} {b : Byte} : StandAt p start [b] ↔ byteAt p start = b :=
  ⟨fun h => h 0 Nat.zero_lt_one, fun h k lt => by obtain rfl := Nat.lt_one_iff.1 lt; exact h⟩

theorem standAt_cons {p : List Byte} {start : Nat} {b : Byte} {l : List Byte} :
    StandAt p start (b :: l) ↔ byteAt p start = b ∧ StandAt p (start + 1) l :=
  (standAt_append (a := [b])).trans (and_congr_left' standAt_singleton)

/-- A two-byte field stands where it is read. -/
theorem standAt_be16 {p : List Byte} {start : Nat} {x : Half} : StandAt p start (be16 x) ↔ halfAt p start = x := by
  rw [be16, standAt_cons, standAt_singleton]
  constructor
  · rintro ⟨high, low⟩
    rw [halfAt, high, low, half_of_bytes]
  · rintro rfl
    obtain ⟨high, rest⟩ := List.cons.inj (be16_append (byteAt p start) (byteAt p (start + 1)))
    exact ⟨high.symm, (List.cons.inj rest).1.symm⟩

/-- A three-byte field stands where it is read. -/
theorem standAt_be24 {p : List Byte} {start : Nat} {x : BitVec 24} : StandAt p start (be24 x) ↔ triAt p start = x := by
  rw [be24, standAt_cons, standAt_cons, standAt_singleton]
  constructor
  · rintro ⟨high, middle, low⟩
    rw [triAt, high, middle, low, tri_of_bytes]
  · rintro rfl
    obtain ⟨high, rest⟩ := List.cons.inj (be24_append (byteAt p start) (byteAt p (start + 1)) (byteAt p (start + 2)))
    obtain ⟨middle, rest⟩ := List.cons.inj rest
    exact ⟨high.symm, middle.symm, (List.cons.inj rest).1.symm⟩

/-- One byte for each entry of a list. -/
theorem standAt_map {α : Type} {p : List Byte} {start : Nat} (f : α → Byte) (l : List α) :
    StandAt p start (l.map f) ↔ ∀ (k : Nat) (lt : k < l.length), byteAt p (start + k) = f l[k] := by
  simp only [StandAt, List.length_map]
  refine forall₂_congr fun k lt => ?_
  rw [byteAt.eq_1 (l.map f), List.getD_eq_getElem _ _ (by simpa using lt), List.getElem_map]

theorem standAt_replicate {p : List Byte} {start n : Nat} {b : Byte} :
    StandAt p start (List.replicate n b) ↔ ∀ k < n, byteAt p (start + k) = b := by
  simp only [StandAt, List.length_replicate]
  refine forall₂_congr fun k lt => ?_
  rw [byteAt.eq_1 (List.replicate n b), List.getD_replicate _ lt]

/-- As many bytes for each entry of a list. -/
theorem standAt_flatMap {α : Type} {p : List Byte} {f : α → List Byte} {size : Nat} (sized : ∀ y, (f y).length = size)
    (start : Nat) (l : List α) :
    StandAt p start (l.flatMap f) ↔ ∀ (k : Nat) (lt : k < l.length), StandAt p (start + size * k) (f l[k]) := by
  induction l generalizing start with
  | nil => exact iff_of_true (standAt_nil p start) fun k lt => absurd lt (Nat.not_lt_zero k)
  | cons y l ih =>
    rw [List.flatMap_cons, standAt_append, sized, ih]
    constructor
    · rintro ⟨first, others⟩ k lt
      cases k with
      | zero => exact first
      | succ k =>
        have here := others k (by simpa using lt)
        rwa [show start + size + size * k = start + size * (k + 1) by ring] at here
    · intro all
      refine ⟨all 0 (Nat.zero_lt_succ _), fun k lt => ?_⟩
      have here := all (k + 1) (by simpa using lt)
      rwa [show start + size * (k + 1) = start + size + size * k by ring] at here

/-- Bytes that stand at the beginning are the beginning. -/
theorem standAt_zero_iff {p bytes : List Byte} (fits : bytes.length ≤ p.length) :
    StandAt p 0 bytes ↔ p.take bytes.length = bytes := by
  have getD (l : List Byte) {k : Nat} (lt : k < l.length) : byteAt l k = l[k] := List.getD_eq_getElem _ _ lt
  constructor
  · intro h
    refine List.ext_getElem (by rw [List.length_take, Nat.min_eq_left fits]) fun k _ lt => ?_
    have byte := h k lt
    rwa [Nat.zero_add, getD p (by omega), getD bytes lt, ← List.getElem_take (j := bytes.length) (h := by
      rw [List.length_take]; omega)] at byte
  · intro h k lt
    rw [Nat.zero_add]
    conv_rhs => rw [← h]
    rw [getD p (by omega), getD _ (by rw [List.length_take]; omega), List.getElem_take]

theorem standAt_self (bytes rest : List Byte) : StandAt (bytes ++ rest) 0 bytes :=
  (standAt_zero_iff (by rw [List.length_append]; omega)).2 List.take_left

/-! ## A check code behind the bytes (R186) -/

/-- R186: bytes with their CRC-16 behind them. -/
def sealed (body : List Byte) : List Byte := body ++ be16 (crc16 body)

theorem sealed_length (body : List Byte) : (sealed body).length = body.length + 2 := List.length_append

/-- The check code of sealed bytes is right, whatever follows them. -/
theorem crc16_sealed (body rest : List Byte) :
    crc16 ((sealed body ++ rest).take body.length) = halfAt (sealed body ++ rest) body.length := by
  have stands : StandAt (sealed body ++ rest) (0 + body.length) (be16 (crc16 body)) :=
    (standAt_append.1 (standAt_self (sealed body) rest)).2
  rw [Nat.zero_add] at stands
  rw [standAt_be16.1 stands, sealed, List.append_assoc, List.take_left]

/-- Bytes with a right check code behind them are sealed. -/
theorem eq_sealed {p body : List Byte} (fits : body.length + 2 ≤ p.length) (stands : StandAt p 0 body)
    (crc : crc16 (p.take body.length) = halfAt p body.length) : p = sealed body ++ p.drop (body.length + 2) := by
  have begins := (standAt_zero_iff (by omega)).1 stands
  rw [begins] at crc
  have whole : StandAt p 0 (sealed body) :=
    standAt_append.2 ⟨stands, standAt_be16.2 (by rw [Nat.zero_add, crc])⟩
  have taken := (standAt_zero_iff (by rw [sealed_length]; exact fits)).1 whole
  conv_lhs => rw [← List.take_append_drop (body.length + 2) p]
  rw [← sealed_length, taken]

end Sys2Proof.RetainedStoreAndJournal
end

section
/-! PROOFS. The configuration record. -/

open Sys2Proof Sys2Proof.Machine

namespace Sys2Proof.RetainedStoreAndJournal

/-! ## Its bytes (Table 10-2) -/

theorem byteN_of_toNat (b : Byte) : byteN b.toNat = b := BitVec.ofNat_toNat ..

theorem byteN_toNat {n : Nat} (lt : n < 256) : (byteN n).toNat = n := by
  rw [byteN, BitVec.toNat_ofNat, Nat.mod_eq_of_lt lt]

/-- Byte 1 of a configuration record. -/
def flagByte (c : ConfigRecord) : Byte :=
  packBits [c.latch, c.autoArm, c.fsafeEnable, c.standin, c.running, c.source == .external]

/-- Byte 8 of a configuration record. -/
def responseByte (c : ConfigRecord) : Byte := packBits [c.respHrst, c.respStandin]

/-- Bytes 0 to 61 of a configuration record. -/
def configBody (c : ConfigRecord) : List Byte :=
  [0x01, flagByte c, byteN c.rate.val] ++ be16 c.tMin ++ be16 c.tMax ++ [byteN c.threshold, responseByte c] ++
    c.chans.toList.map channelByte ++ c.lengths.toList.map byteN ++ List.replicate 29 0x00

theorem configBytes_eq (c : ConfigRecord) : configBytes c = sealed (configBody c) := rfl

theorem configBody_length (c : ConfigRecord) : (configBody c).length = 62 := by
  simp [configBody, be16]

/-- Table 10-2: a page holds the fields of a record. -/
structure HoldsRecord (p : List Byte) (c : ConfigRecord) : Prop where
  format : byteAt p 0 = 0x01
  flags : byteAt p 1 = flagByte c
  rate : byteAt p 2 = byteN c.rate.val
  tMin : halfAt p 3 = c.tMin
  tMax : halfAt p 5 = c.tMax
  threshold : byteAt p 7 = byteN c.threshold
  response : byteAt p 8 = responseByte c
  chans : ∀ i : Fin 16, byteAt p (9 + i.val) = channelByte c.chans[i]
  lengths : ∀ i : Fin 8, byteAt p (25 + i.val) = byteN c.lengths[i]
  zeros : ∀ i < 29, byteAt p (33 + i) = 0x00

/-- One byte for each entry of a vector. -/
theorem standAt_vector {α : Type} {p : List Byte} {start n : Nat} (f : α → Byte) (v : Vector α n) :
    StandAt p start (v.toList.map f) ↔ ∀ i : Fin n, byteAt p (start + i.val) = f v[i] := by
  rw [standAt_map]
  constructor
  · intro h i
    exact h i.val (by simp)
  · intro h k lt
    exact h ⟨k, by simpa using lt⟩

/-- A page holds the fields of a record exactly when its bytes 0 to 61 are the record's. -/
theorem holdsRecord_iff (p : List Byte) (c : ConfigRecord) : HoldsRecord p c ↔ StandAt p 0 (configBody c) := by
  simp only [configBody, standAt_append, standAt_be16, standAt_vector, standAt_replicate, standAt_cons, standAt_nil,
    List.length_append, List.length_map, List.length_cons, List.length_nil, Vector.length_toList,
    show ∀ x : Half, (be16 x).length = 2 from fun _ => rfl, Nat.zero_add, Nat.reduceAdd, and_true, and_assoc]
  constructor
  · rintro ⟨format, flags, rate, tMin, tMax, threshold, response, chans, lengths, zeros⟩
    exact ⟨format, flags, rate, tMin, tMax, threshold, response, chans, lengths, zeros⟩
  · rintro ⟨format, flags, rate, tMin, tMax, threshold, response, chans, lengths, zeros⟩
    exact ⟨format, flags, rate, tMin, tMax, threshold, response, chans, lengths, zeros⟩

/-! ## Bytes of bits, and their values (Table 10-2) -/

/-- Table 10-2: the byte of a channel whose commanded level is its safe level gives the channel. -/
theorem channelOfByte_channelByte {x : Channel} (level : x.level = x.safe) : channelOfByte (channelByte x) = x := by
  obtain ⟨drive, safe, owned, shut, level'⟩ := x
  obtain rfl : level' = safe := level
  cases drive <;> cases level' <;> cases owned <;> cases shut <;> rfl

/-- Table 10-2: a valid channel byte is the byte of the channel it gives. -/
theorem channelByte_channelOfByte {b : Byte} (valid : ¬(32 ≤ b.toNat ∨ b.toNat / 2 % 4 = 3)) :
    channelByte (channelOfByte b) = b := by
  revert b
  decide

theorem channelByte_valid (x : Channel) : ¬(32 ≤ (channelByte x).toNat ∨ (channelByte x).toNat / 2 % 4 = 3) := by
  obtain ⟨drive, safe, owned, shut, _⟩ := x
  simp only [channelByte]
  cases drive <;> cases safe <;> cases owned <;> cases shut <;> decide

/-- A byte of six yes/no is packed from its bits. -/
theorem packBits_six {b : Byte} (lt : ¬64 ≤ b.toNat) :
    packBits [b.getLsbD 5, b.getLsbD 4, b.getLsbD 3, b.getLsbD 2, b.getLsbD 1, b.getLsbD 0] = b := by
  revert b
  decide

/-- A byte of two yes/no is packed from its bits. -/
theorem packBits_pair {b : Byte} (le : ¬3 < b.toNat) : packBits [b.getLsbD 1, b.getLsbD 0] = b := by
  revert b
  decide

theorem foldl_bits_lt (bits : List Bool) : bits.foldl (fun n (b : Bool) => 2 * n + b.toNat) 0 < 2 ^ bits.length := by
  induction bits using List.reverseRecOn with
  | nil => decide
  | append_singleton bits b ih =>
    rw [List.foldl_append, List.length_append, List.length_singleton, Nat.pow_succ]
    have bit := Bool.toNat_lt b
    simp only [List.foldl_cons, List.foldl_nil]
    omega

/-- A byte that is packed from some yes/no is less than their number of values. -/
theorem packBits_lt (bits : List Bool) : (packBits bits).toNat < 2 ^ bits.length := by
  rw [packBits, byteN, BitVec.toNat_ofNat]
  exact (Nat.mod_le _ _).trans_lt (foldl_bits_lt bits)

/-! ## A page that holds a record (R187) -/

/-- R187: no field of a page that holds storable values fails. -/
theorem HoldsRecord.noneFails {p : List Byte} {c : ConfigRecord} (holds : HoldsRecord p c) (storable : c.storable) (i : Nat) :
    ¬FieldFails p i := by
  obtain ⟨tMaxLeast, tMaxMost, tMinLess, least, most, -, lengths⟩ := storable
  have flags : (byteAt p 1).toNat < 64 := holds.flags ▸ packBits_lt _
  have response : (byteAt p 8).toNat < 4 := holds.response ▸ packBits_lt _
  have rate : (byteAt p 2).toNat = c.rate.val := by rw [holds.rate, byteN_toNat (by omega)]
  have threshold : (byteAt p 7).toNat = c.threshold := by rw [holds.threshold, byteN_toNat (by omega)]
  have rateLt := c.rate.isLt
  rw [FieldFails, holds.tMin, holds.tMax]
  rintro (⟨rfl, fails⟩ | ⟨rfl, fails⟩ | ⟨rfl, fails⟩ | ⟨rfl, fails⟩ | ⟨rfl, fails⟩ | ⟨rfl, fails⟩ | ⟨from9, to24, fails⟩ |
    ⟨from25, to32, fails⟩ | ⟨from33, to61, fails⟩)
  · omega
  · omega
  · omega
  · omega
  · omega
  · omega
  · have byte := holds.chans ⟨i - 9, by omega⟩
    rw [Nat.add_sub_cancel' from9] at byte
    exact channelByte_valid _ (byte ▸ fails)
  · have byte := holds.lengths ⟨i - 25, by omega⟩
    have range := lengths ⟨i - 25, by omega⟩
    rw [Nat.add_sub_cancel' from25] at byte
    rw [byte, byteN_toNat (by omega)] at fails
    omega
  · have byte := holds.zeros (i - 33) (by omega)
    rw [Nat.add_sub_cancel' from33] at byte
    rw [byte] at fails
    exact fails rfl

/-- R187: the values of a page that holds storable values are those values. -/
theorem HoldsRecord.configOf {p : List Byte} {c : ConfigRecord} (holds : HoldsRecord p c) (storable : c.storable) :
    configOf p = c := by
  obtain ⟨-, -, -, -, most, level, lengths⟩ := storable
  have flag {i : Nat} (lt : i < 8) : (byteAt p 1).getLsbD i =
      [c.source == .external, c.running, c.standin, c.fsafeEnable, c.autoArm, c.latch].getD i false :=
    holds.flags ▸ TheCueTable.packBits_getLsbD _ lt
  have response {i : Nat} (lt : i < 8) : (byteAt p 8).getLsbD i = [c.respStandin, c.respHrst].getD i false :=
    holds.response ▸ TheCueTable.packBits_getLsbD _ lt
  have source : (if (c.source == .external) = true then Source.external else .internal) = c.source := by
    cases c.source <;> rfl
  have rate : Fin.ofNat 4 (byteAt p 2).toNat = c.rate := by
    rw [holds.rate, byteN_toNat (by omega)]
    exact Fin.ofNat_val_eq_self _
  have threshold : (byteAt p 7).toNat = c.threshold := by rw [holds.threshold, byteN_toNat (by omega)]
  have chans : (Vector.ofFn fun i : Fin 16 => channelOfByte (byteAt p (9 + i.val))) = c.chans := by
    ext k lt
    rw [Vector.getElem_ofFn, holds.chans ⟨k, lt⟩]
    exact channelOfByte_channelByte (level ⟨k, lt⟩)
  have filters : (Vector.ofFn fun i : Fin 8 => (byteAt p (25 + i.val)).toNat) = c.lengths := by
    ext k lt
    obtain ⟨-, le⟩ := lengths ⟨k, lt⟩
    rw [Vector.getElem_ofFn, holds.lengths ⟨k, lt⟩]
    exact byteN_toNat (by omega)
  simp only [Machine.configOf, flag (show 0 < 8 by decide), flag (show 1 < 8 by decide), flag (show 2 < 8 by decide),
    flag (show 3 < 8 by decide), flag (show 4 < 8 by decide), flag (show 5 < 8 by decide), response (show 0 < 8 by decide),
    response (show 1 < 8 by decide), rate, threshold, chans, filters, holds.tMin, holds.tMax]
  exact congrArg (fun x => { c with source := x }) source

section
variable {p : List Byte} (valid : ∀ i, ¬FieldFails p i)
include valid

/-- R187: a page none of whose fields fails gives storable values. -/
theorem configOf_storable : (configOf p).storable := by
  have tMin : ¬(halfAt p 5).toNat ≤ (halfAt p 3).toNat :=
    fun fails => valid 3 <| Or.inr <| Or.inr <| Or.inl ⟨rfl, fails⟩
  have tMax : ¬((halfAt p 5).toNat < 2 ∨ 60000 < (halfAt p 5).toNat) :=
    fun fails => valid 5 <| Or.inr <| Or.inr <| Or.inr <| Or.inl ⟨rfl, fails⟩
  have threshold : ¬((byteAt p 7).toNat < 1 ∨ 3 < (byteAt p 7).toNat) :=
    fun fails => valid 7 <| Or.inr <| Or.inr <| Or.inr <| Or.inr <| Or.inl ⟨rfl, fails⟩
  refine ⟨?_, ?_, ?_, ?_, ?_, fun i => ?_, fun i => ?_⟩
  · simp only [configOf]; omega
  · simp only [configOf]; omega
  · simp only [configOf]; omega
  · simp only [configOf]; omega
  · simp only [configOf]; omega
  · simp only [configOf, Fin.getElem_fin, Vector.getElem_ofFn]
    rfl
  · have length := valid (25 + i.val)
    simp only [FieldFails] at length
    simp only [configOf, Fin.getElem_fin, Vector.getElem_ofFn]
    omega

/-- R187: a page with the format byte, none of whose fields fails, holds the record of its values. -/
theorem holdsRecord_configOf (format : byteAt p 0 = 0x01) : HoldsRecord p (configOf p) := by
  have flags : ¬64 ≤ (byteAt p 1).toNat := fun fails => valid 1 <| Or.inl ⟨rfl, fails⟩
  have rate : ¬3 < (byteAt p 2).toNat := fun fails => valid 2 <| Or.inr <| Or.inl ⟨rfl, fails⟩
  have response : ¬3 < (byteAt p 8).toNat :=
    fun fails => valid 8 <| Or.inr <| Or.inr <| Or.inr <| Or.inr <| Or.inr <| Or.inl ⟨rfl, fails⟩
  have source (external : Bool) : ((if external then Source.external else .internal) == .external) = external := by
    cases external <;> rfl
  refine { format := format, flags := ?_, rate := ?_, tMin := rfl, tMax := rfl, threshold := (byteN_of_toNat _).symm,
           response := ?_, chans := fun i => ?_, lengths := fun i => ?_, zeros := fun i lt => ?_ }
  · rw [flagByte, configOf]
    simp only [source]
    exact (packBits_six flags).symm
  · have lt : (byteAt p 2).toNat < 4 := by omega
    simp only [configOf, Fin.val_ofNat, Nat.mod_eq_of_lt lt, byteN_of_toNat]
  · exact (packBits_pair response).symm
  · have channel := valid (9 + i.val)
    simp only [FieldFails] at channel
    simp only [configOf, Fin.getElem_fin, Vector.getElem_ofFn]
    exact (channelByte_channelOfByte (by omega)).symm
  · simp only [configOf, Fin.getElem_fin, Vector.getElem_ofFn, byteN_of_toNat]
  · have zero := valid (33 + i)
    simp only [FieldFails] at zero
    apply BitVec.eq_of_toNat_eq
    change _ = 0
    omega

end

end Sys2Proof.RetainedStoreAndJournal
end

section
/-! PROOFS. How page 0 is classed. -/

open Sys2Proof Sys2Proof.Machine

namespace Sys2Proof.RetainedStoreAndJournal

/-! ## The first field that fails (R187) -/

/-- Checks in ascending order of their offsets: the first that fails is found. -/
theorem find_first_failing {checks : List (Nat × Bool)} (ascending : checks.Pairwise fun f g => f.1 < g.1) {i : Nat}
    (fails : (i, false) ∈ checks) (first : ∀ j < i, (j, false) ∉ checks) :
    checks.find? (fun f => !f.2) = some (i, false) := by
  cases found : checks.find? (fun f => !f.2) with
  | none => exact absurd rfl (List.find?_eq_none.1 found _ fails)
  | some f =>
    obtain ⟨j, ok⟩ := f
    obtain ⟨failed, before, behind, split, passed⟩ := List.find?_eq_some_iff_append.1 found
    obtain rfl : ok = false := by simpa using failed
    have notBefore : (i, false) ∉ before := fun mem => absurd (passed _ mem) Bool.false_ne_true
    have atOrBehind : i = j ∨ (i, false) ∈ behind := by
      simpa [split, notBefore] using fails
    rcases atOrBehind with rfl | mem
    · rfl
    · rw [split] at ascending
      have lt := (List.pairwise_cons.1 (List.pairwise_append.1 ascending).2.1).1 _ mem
      exact absurd (List.mem_of_find?_eq_some found) (first j lt)

theorem configFields_ascending (p : List Byte) : (configFields p).Pairwise fun f g => f.1 < g.1 := by
  have offsets : (configFields p).map Prod.fst =
      [1, 2, 3, 5, 7, 8] ++ (List.range 16).map (9 + ·) ++ (List.range 8).map (25 + ·) ++ (List.range 29).map (33 + ·) := rfl
  have ascending : ((configFields p).map Prod.fst).Pairwise (· < ·) := by
    rw [offsets]
    decide
  exact List.pairwise_map.1 ascending

/-- A check among those of some consecutive bytes. -/
theorem mem_checks {start n i : Nat} {ok : Nat → Bool} :
    (i, false) ∈ (List.range n).map (fun k => (start + k, ok k)) ↔ start ≤ i ∧ i < start + n ∧ ok (i - start) = false := by
  simp only [List.mem_map, List.mem_range, Prod.mk.injEq]
  constructor
  · rintro ⟨k, lt, rfl, failed⟩
    exact ⟨Nat.le_add_right .., by omega, by rwa [Nat.add_sub_cancel_left]⟩
  · rintro ⟨le, lt, failed⟩
    exact ⟨i - start, by omega, by omega, failed⟩

theorem flagsOk_eq_false {b : Byte} : (b &&& 0xC0 == 0) = false ↔ 64 ≤ b.toNat := by
  revert b
  decide

theorem validResponse_eq_false {b : Byte} : validResponse b = false ↔ 3 < b.toNat := by
  rw [← Bool.not_eq_true, TheWarden.validResponse_iff, Nat.not_le]

theorem validChannelByte_eq_false {b : Byte} : validChannelByte b = false ↔ 32 ≤ b.toNat ∨ b.toNat / 2 % 4 = 3 := by
  revert b
  decide

/-- Table 10-2: the checks that fail are those of the statements. -/
theorem mem_configFields {p : List Byte} {i : Nat} : (i, false) ∈ configFields p ↔ FieldFails p i := by
  have zero (b : Byte) : (b == 0) = false ↔ b.toNat ≠ 0 := by
    rw [beq_eq_false_iff_ne, ne_eq, BitVec.toNat_eq]
    rfl
  simp only [configFields, List.mem_append, List.mem_cons, List.not_mem_nil, or_false, mem_checks, Prod.mk.injEq,
    FieldFails, or_assoc]
  refine or_congr ?_ (or_congr ?_ (or_congr ?_ (or_congr ?_ (or_congr ?_ (or_congr ?_ (or_congr ?_ (or_congr ?_ ?_)))))))
  · refine and_congr_right fun here => ?_
    rw [here, eq_comm, flagsOk_eq_false]
  · refine and_congr_right fun here => ?_
    rw [here, eq_comm, decide_eq_false_iff_not, Nat.not_le]
  · refine and_congr_right fun _ => ?_
    rw [eq_comm, validTMin, decide_eq_false_iff_not, Nat.not_lt]
  · refine and_congr_right fun _ => ?_
    rw [eq_comm, validTMax, Bool.and_eq_false_iff, decide_eq_false_iff_not, decide_eq_false_iff_not, Nat.not_le, Nat.not_le]
  · refine and_congr_right fun here => ?_
    rw [here, eq_comm, validThreshold, Bool.and_eq_false_iff, decide_eq_false_iff_not, decide_eq_false_iff_not, Nat.not_le,
      Nat.not_le]
  · refine and_congr_right fun here => ?_
    rw [here, eq_comm, validResponse_eq_false]
  · refine and_congr_right fun le => and_congr (by omega) ?_
    rw [Nat.add_sub_cancel' le, validChannelByte_eq_false]
  · refine and_congr_right fun le => and_congr (by omega) ?_
    rw [Nat.add_sub_cancel' le, validLength, Bool.and_eq_false_iff, decide_eq_false_iff_not, decide_eq_false_iff_not,
      Nat.not_le, Nat.not_le]
  · refine and_congr_right fun le => and_congr (by omega) ?_
    rw [Nat.add_sub_cancel' le, zero]

/-! ## The class of a page (R187) -/

theorem classRecord_erased : classRecord (List.replicate 64 0xFF) = .erased := if_pos rfl

section
variable {p : List Byte} (written : p ≠ List.replicate 64 0xFF)
include written

theorem classRecord_of_crc (crc : crc16 (p.take 62) ≠ halfAt p 62) : classRecord p = .bad 0xFF 1 :=
  (if_neg written).trans (if_pos crc)

variable (crc : crc16 (p.take 62) = halfAt p 62)
include crc

theorem classRecord_of_format (format : byteAt p 0 ≠ 0x01) : classRecord p = .bad 0 2 :=
  (if_neg written).trans ((if_neg (not_not_intro crc)).trans (if_pos format))

variable (format : byteAt p 0 = 0x01)
include format

/-- R187: with a right CRC and the format byte, the fields decide. -/
theorem classRecord_of_fields :
    classRecord p =
      match (configFields p).find? fun f => !f.2 with
      | some f => .bad f.1 3
      | none => .valid (configOf p) :=
  (if_neg written).trans ((if_neg (not_not_intro crc)).trans (if_neg (not_not_intro format)))

theorem classRecord_of_failing {i : Nat} (fails : FieldFails p i) (first : ∀ j < i, ¬FieldFails p j) :
    classRecord p = .bad i 3 := by
  rw [classRecord_of_fields written crc format,
    find_first_failing (configFields_ascending p) (mem_configFields.2 fails) fun j lt => mt mem_configFields.1 (first j lt)]

theorem classRecord_of_noneFails (valid : ∀ i, ¬FieldFails p i) : classRecord p = .valid (configOf p) := by
  have none : (configFields p).find? (fun f => !f.2) = none := by
    refine List.find?_eq_none.2 fun f mem => ?_
    obtain ⟨i, ok⟩ := f
    cases ok with
    | true => exact Bool.false_ne_true
    | false => exact absurd (mem_configFields.1 mem) (valid i)
  rw [classRecord_of_fields written crc format, none]

end

/-- R187: what a page that is read as a valid record has. -/
theorem of_classRecord_valid {p : List Byte} {c : ConfigRecord} (h : classRecord p = .valid c) :
    crc16 (p.take 62) = halfAt p 62 ∧ byteAt p 0 = 0x01 ∧ (∀ i, ¬FieldFails p i) ∧ configOf p = c := by
  have written : p ≠ List.replicate 64 0xFF := by
    rintro rfl
    rw [classRecord_erased] at h
    cases h
  by_cases crc : crc16 (p.take 62) = halfAt p 62
  · by_cases format : byteAt p 0 = 0x01
    · by_cases valid : ∀ i, ¬FieldFails p i
      · rw [classRecord_of_noneFails written crc format valid] at h
        exact ⟨crc, format, valid, RecordClass.valid.inj h⟩
      · have some : ∃ i, FieldFails p i := by simpa only [not_forall, not_not] using valid
        obtain ⟨i, fails, first⟩ : ∃ i, FieldFails p i ∧ ∀ j < i, ¬FieldFails p j := by
          classical exact ⟨Nat.find some, Nat.find_spec some, fun j lt => Nat.find_min some lt⟩
        rw [classRecord_of_failing written crc format fails first] at h
        cases h
    · rw [classRecord_of_format written crc format] at h
      cases h
  · rw [classRecord_of_crc written crc] at h
    cases h

/-- R187: a record is read back with every field. -/
theorem classRecord_configBytes {c : ConfigRecord} (storable : c.storable) :
    (configBytes c).length = 64 ∧ classRecord (configBytes c) = .valid c := by
  have length := configBody_length c
  have holds : HoldsRecord (configBytes c) c := (holdsRecord_iff _ c).2 (standAt_self (configBody c) _)
  have crc : crc16 ((configBytes c).take 62) = halfAt (configBytes c) 62 := by
    have right := crc16_sealed (configBody c) []
    rwa [List.append_nil, length] at right
  have written : configBytes c ≠ List.replicate 64 0xFF := by
    intro erased
    have format := holds.format
    rw [erased] at format
    exact absurd format (by decide)
  refine ⟨by rw [configBytes_eq, sealed_length, length], ?_⟩
  rw [classRecord_of_noneFails written crc holds.format (holds.noneFails storable), holds.configOf storable]

/-- R187: a page that is read as a valid record is the record of storable values. -/
theorem configBytes_of_classRecord {p : List Byte} {c : ConfigRecord} (length : p.length = 64)
    (h : classRecord p = .valid c) : c.storable ∧ configBytes c = p := by
  obtain ⟨crc, format, valid, rfl⟩ := of_classRecord_valid h
  have stands := (holdsRecord_iff p _).1 (holdsRecord_configOf valid format)
  have body := configBody_length (configOf p)
  have whole := eq_sealed (by rw [body, length]) stands (by rwa [body])
  refine ⟨configOf_storable valid, ?_⟩
  rw [body, List.drop_eq_nil_of_le length.le, List.append_nil] at whole
  exact whole.symm

end Sys2Proof.RetainedStoreAndJournal
end

section
/-! PROOFS. Images and journal records, and the stored formats. -/

open Sys2Proof Sys2Proof.Machine

namespace Sys2Proof.RetainedStoreAndJournal

/-! ## Steps (Table 10-4) -/

/-- Table 10-4: the code of a level kind. -/
def kindByte (k : LevelKind) : Byte := match k with | .low => 0x00 | .high => 0x01 | .flt => 0x02 | .toggle => 0x03

theorem kind_ofCode_iff {b : Byte} {k : LevelKind} : LevelKind.ofCode b = some k ↔ b = kindByte k := by
  constructor
  · intro h
    unfold LevelKind.ofCode at h
    split_ifs at h with low high flt toggle
    · cases h; exact low
    · cases h; exact high
    · cases h; exact flt
    · cases h; exact toggle
  · rintro rfl
    cases k <;> rfl

theorem stepBytes_eq (y : ProgramStep) :
    stepBytes y = be24 (BitVec.ofNat 24 y.offset) ++ be16 y.mask ++ [kindByte y.kind] := rfl

theorem stepBytes_length (y : ProgramStep) : (stepBytes y).length = 6 := rfl

/-- A number stands in three bytes where it is read, if it fits them. -/
theorem tri_toNat_iff {x : BitVec 24} {n : Nat} (lt : n < 2 ^ 24) : x.toNat = n ↔ x = BitVec.ofNat 24 n := by
  rw [BitVec.toNat_eq, BitVec.toNat_ofNat, Nat.mod_eq_of_lt lt]

/-- R188: a step is read where its bytes stand. -/
theorem stepAt_eq_some {p : List Byte} {i : Nat} {y : ProgramStep} (lt : y.offset < 2 ^ 24) :
    stepAt p i = some y ↔ StandAt p (8 + 6 * i) (stepBytes y) := by
  have size (x : BitVec 24) : (be24 x).length = 3 := rfl
  have halfSize (x : Half) : (be16 x).length = 2 := rfl
  rw [stepBytes_eq, standAt_append, standAt_append, standAt_be24, standAt_be16, standAt_singleton, List.length_append, size,
    halfSize, ← tri_toNat_iff lt, ← kind_ofCode_iff, stepAt, Option.map_eq_some_iff]
  constructor
  · rintro ⟨kind, code, rfl⟩
    exact ⟨⟨rfl, rfl⟩, code⟩
  · rintro ⟨⟨offset, mask⟩, code⟩
    exact ⟨y.kind, code, by rw [offset, mask]⟩

/-- A list is read entry by entry. -/
theorem mapM_eq_some {α β : Type} {f : α → Option β} {l : List α} {ys : List β} :
    l.mapM f = some ys ↔ l.map f = ys.map some := by
  induction l generalizing ys with
  | nil => cases ys <;> simp
  | cons a l ih =>
    cases ys with
    | nil => simp [List.mapM_cons, Option.bind_eq_some_iff]
    | cons y ys => simp [List.mapM_cons, ← ih, Option.bind_eq_some_iff]

theorem stepsOf_eq_some {p : List Byte} {n : Nat} {steps : List ProgramStep} :
    stepsOf p n = some steps ↔ steps.length = n ∧ ∀ (i : Nat) (lt : i < steps.length), stepAt p i = some steps[i] := by
  rw [stepsOf, mapM_eq_some]
  constructor
  · intro h
    have length : steps.length = n := by simpa using (congrArg List.length h).symm
    refine ⟨length, fun i lt => ?_⟩
    have entry := congrArg (·[i]?) h
    simpa [lt, show i < n by omega] using entry
  · rintro ⟨rfl, entries⟩
    refine List.ext_getElem (by simp) fun i _ lt => ?_
    simpa using entries i (by simpa using lt)

/-! ## Images (R188) -/

/-- Table 10-4, byte 1. -/
def modeByte (x : ProgramMode) : Byte := match x with | .cycle => 0x00 | .once => 0x01

theorem modeOf_eq_some {b : Byte} {mode : ProgramMode} : modeOf b = some mode ↔ b = modeByte mode := by
  constructor
  · intro h
    unfold modeOf at h
    split_ifs at h with cycle once
    · cases h; exact cycle
    · cases h; exact once
  · rintro rfl
    cases mode <;> rfl

/-- Table 10-4: the bytes of an image before its CRC. -/
def imageBody (x : Image) : List Byte :=
  [0x01, modeByte x.mode] ++ be16 x.gen ++ be24 (BitVec.ofNat 24 x.length) ++ [byteN x.steps.length] ++
    x.steps.flatMap stepBytes

theorem imageBytes_eq (x : Image) : imageBytes x = sealed (imageBody x) := rfl

theorem imageBody_length (x : Image) : (imageBody x).length = 8 + 6 * x.steps.length := by
  have steps : (x.steps.flatMap stepBytes).length = 6 * x.steps.length := by
    rw [List.length_flatMap, List.map_congr_left fun y _ => stepBytes_length y, List.map_const', List.sum_replicate,
      smul_eq_mul, Nat.mul_comm]
  rw [imageBody, List.length_append, steps]
  rfl

/-- R188: what a bank holds that is read as an image. -/
structure HoldsImage (p : List Byte) (x : Image) : Prop where
  format : byteAt p 0 = 0x01
  mode : modeOf (byteAt p 1) = some x.mode
  gen : halfAt p 2 = x.gen
  length : (triAt p 4).toNat = x.length
  count : (byteAt p 7).toNat = x.steps.length
  steps : stepsOf p x.steps.length = some x.steps

/-- A bank holds an image exactly when the image's bytes stand at its beginning. -/
theorem holdsImage_iff {p : List Byte} {x : Image} (length : x.length < 2 ^ 24) (count : x.steps.length < 256)
    (offsets : ∀ y ∈ x.steps, y.offset < 2 ^ 24) : HoldsImage p x ↔ StandAt p 0 (imageBody x) := by
  have number : (byteAt p 7).toNat = x.steps.length ↔ byteAt p 7 = byteN x.steps.length := by
    rw [BitVec.toNat_eq, byteN_toNat count]
  have steps : stepsOf p x.steps.length = some x.steps ↔
      ∀ (i : Nat) (lt : i < x.steps.length), StandAt p (8 + 6 * i) (stepBytes x.steps[i]) := by
    rw [stepsOf_eq_some, and_iff_right rfl]
    exact forall₂_congr fun i lt => stepAt_eq_some (offsets _ (List.getElem_mem lt))
  simp only [imageBody, standAt_append, standAt_be16, standAt_be24, standAt_cons, standAt_nil,
    standAt_flatMap stepBytes_length, List.length_append, List.length_cons, List.length_nil,
    show ∀ x : Half, (be16 x).length = 2 from fun _ => rfl, show ∀ x : BitVec 24, (be24 x).length = 3 from fun _ => rfl,
    Nat.zero_add, Nat.reduceAdd, and_true, and_assoc]
  constructor
  · rintro ⟨format, mode, gen, cycle, some, entries⟩
    exact ⟨format, modeOf_eq_some.1 mode, gen, (tri_toNat_iff length).1 cycle, number.1 some, steps.1 entries⟩
  · rintro ⟨format, mode, gen, cycle, some, entries⟩
    exact ⟨format, modeOf_eq_some.2 mode, gen, (tri_toNat_iff length).2 cycle, number.2 some, steps.2 entries⟩

theorem offsetsOk_iff (length : Nat) (steps : List ProgramStep) :
    offsetsOk length steps = true ↔
      (∀ y ∈ steps, y.offset < length) ∧ steps.Pairwise fun y z => y.offset ≤ z.offset := by
  simp only [offsetsOk, Bool.and_eq_true, List.all_eq_true, decide_eq_true_eq]

/-- R188: an image is read where a bank holds it, with a right CRC. -/
theorem HoldsImage.parse {p : List Byte} {x : Image} (holds : HoldsImage p x) (storable : x.storable)
    (crc : crc16 (p.take (8 + 6 * x.steps.length)) = halfAt p (8 + 6 * x.steps.length)) : parseImage x.bank p = some x := by
  obtain ⟨least, most, long, -, inside, ordered⟩ := storable
  have ok : offsetsOk x.length x.steps = true := (offsetsOk_iff _ _).2 ⟨inside, ordered⟩
  rw [parseImage, if_neg (not_not_intro holds.format), holds.mode]
  simp only [holds.count, holds.length, holds.steps, holds.gen, ok, crc, beq_self_eq_true, Bool.and_self, if_true]
  exact if_neg (by omega)

/-- R188: a bank that is read as an image holds it, with a right CRC; and the image is storable. -/
theorem of_parseImage {k : Bank} {p : List Byte} {x : Image} (h : parseImage k p = some x) :
    x.bank = k ∧ x.storable ∧ HoldsImage p x ∧
      crc16 (p.take (8 + 6 * x.steps.length)) = halfAt p (8 + 6 * x.steps.length) := by
  unfold parseImage at h
  split_ifs at h with format
  split at h
  next => cases h
  next mode modeRead =>
    dsimp only at h
    split_ifs at h with bounds
    split at h
    next => cases h
    next steps stepsRead =>
      split_ifs at h with ok
      cases h
      rw [Bool.and_eq_true, beq_iff_eq, offsetsOk_iff] at ok
      obtain ⟨⟨inside, ordered⟩, crc⟩ := ok
      obtain ⟨count, -⟩ := stepsOf_eq_some.1 stepsRead
      have long := (triAt p 4).isLt
      refine ⟨rfl, ⟨?_, ?_, ?_, long, inside, ordered⟩, ⟨not_not.1 format, modeRead, rfl, rfl, count.symm, ?_⟩, ?_⟩
      · rw [count]; omega
      · rw [count]; omega
      · change 1 ≤ (triAt p 4).toNat
        omega
      · rw [count]; exact stepsRead
      · rw [count]; exact crc

section
variable {x : Image} (storable : x.storable)
include storable

/-- R188: a bank holds a storable image exactly when the image's bytes stand at its beginning. -/
theorem holdsImage_iff_of_storable (p : List Byte) : HoldsImage p x ↔ StandAt p 0 (imageBody x) := by
  obtain ⟨-, most, -, short, inside, -⟩ := storable
  exact holdsImage_iff short (by omega) fun y mem => (inside y mem).trans short

/-- R188: an image is read back with every field, whatever follows it. -/
theorem parseImage_imageBytes (rest : List Byte) : parseImage x.bank (imageBytes x ++ rest) = some x := by
  have body := imageBody_length x
  have stands : StandAt (imageBytes x ++ rest) 0 (imageBody x) := by
    rw [imageBytes_eq, sealed, List.append_assoc]
    exact standAt_self _ _
  have crc := crc16_sealed (imageBody x) rest
  rw [body] at crc
  exact ((holdsImage_iff_of_storable storable _).2 stands).parse storable crc

end

/-- R188: a bank that is read as valid begins with the bytes of a storable image. -/
theorem imageBytes_of_parseImage {k : Bank} {p : List Byte} {x : Image} (length : p.length = 256)
    (h : parseImage k p = some x) : x.bank = k ∧ x.storable ∧ ∃ rest, p = imageBytes x ++ rest := by
  obtain ⟨bank, storable, holds, crc⟩ := of_parseImage h
  have body := imageBody_length x
  have stands := (holdsImage_iff_of_storable storable p).1 holds
  have most : x.steps.length ≤ 32 := storable.2.1
  exact ⟨bank, storable, _, eq_sealed (body := imageBody x) (by omega) stands (by rw [body]; exact crc)⟩

/-! ## Journal records (R190) -/

theorem kindCode_ne_erased (k : JournalKind) : k.code ≠ 0xFF := by cases k <;> decide

/-- R190: bytes 0 to 14 of a journal record. -/
def journalBody (seq : Half) (r : JournalRecord) : List Byte :=
  be16 seq ++ [r.kind.code, r.detail] ++ be32 r.tick ++ be32 r.ms ++ [r.causes.code, 0x00, 0x00]

theorem recordBytes_eq (seq : Half) (r : JournalRecord) :
    recordBytes seq r = journalBody seq r ++ [crc8 (journalBody seq r)] := rfl

theorem recordBytes_take (seq : Half) (r : JournalRecord) : (recordBytes seq r).take 15 = journalBody seq r := by
  rw [recordBytes_eq]
  exact List.take_left' rfl

/-- R190: a journal record is valid. -/
theorem slotValid_recordBytes (seq : Half) (r : JournalRecord) : slotValid (recordBytes seq r) = true := by
  have check : byteAt (recordBytes seq r) 15 = crc8 (journalBody seq r) :=
    byteAt_append_last (journalBody seq r) _
  refine (slotValid_iff _).2 ⟨kindCode_ne_erased r.kind, ?_⟩
  rw [check, recordBytes_take]

/-- R190: a journal record is read back with its sequence and every field. -/
theorem recordBytes_readBack (seq : Half) (r : JournalRecord) :
    (recordBytes seq r).length = 16 ∧ slotValid (recordBytes seq r) = true ∧ recordSeq (recordBytes seq r) = seq ∧
      (recordBytes seq r).take 15 =
        be16 seq ++ [r.kind.code, r.detail] ++ be32 r.tick ++ be32 r.ms ++ [r.causes.code, 0x00, 0x00] :=
  ⟨rfl, slotValid_recordBytes seq r, TheCueTable.half_of_bytes seq, recordBytes_take seq r⟩

/-- Settles O55, format by format. -/
theorem storedFormatsDecodeTheirEncodings : Obligations.StoredFormatsDecodeTheirEncodings := by
  unfold Obligations.StoredFormatsDecodeTheirEncodings
  refine ⟨fun c storable => classRecord_configBytes storable, classRecord_erased,
    fun p _ written crc => classRecord_of_crc written crc,
    fun p _ written crc => ⟨classRecord_of_format written crc, fun format =>
      ⟨fun i fails first => classRecord_of_failing written crc format fails first,
        fun valid => ⟨_, classRecord_of_noneFails written crc format valid⟩⟩⟩,
    fun p c length h => configBytes_of_classRecord length h,
    fun x rest storable => parseImage_imageBytes storable rest,
    fun k p x length h => imageBytes_of_parseImage length h,
    recordBytes_readBack⟩

end Sys2Proof.RetainedStoreAndJournal
end

section
/-! PROOFS. Reset, power-up and pins: the commands of group SYS that report and clear the reset causes. -/

open Sys2Proof Sys2Proof.Machine Sys2Proof.TimebaseAndTicks

namespace Sys2Proof.ResetPowerUpAndPins

/-! ## SYS.CAUSE (R197) -/

/-- R197: without exactly one parameter byte, ERR_FORMAT. -/
theorem cmdSysCause_of_length {params : List Byte} (other : params.length ≠ 1) (s : State) :
    cmdSysCause params s = fail .format s := by
  refine cmdSysCause.eq_2 params s ?_
  rintro b rfl
  exact other rfl

/-- R197: a byte other than 00h and 01h, ERR_PARAM. -/
theorem cmdSysCause_of_gt {b : Byte} (above : 1 < b.toNat) (s : State) : cmdSysCause [b] s = fail .param s := by
  have ne0 : b ≠ 0 := fun e => by subst e; exact absurd above (by decide)
  have ne1 : b ≠ 1 := fun e => by subst e; exact absurd above (by decide)
  simp only [cmdSysCause, if_neg ne0, if_neg ne1]

section
variable {f : Frame} {s : State} (h : Served f s)
include h

/-- R197: with 00h the command only reads. -/
theorem sysCause_reads (params : f.params = [0x00]) :
    serveCommand (plain cmdSysCause) f s = granted f [s.sys.causes.code] (met f.pins s) :=
  serveCommand_done h (by rw [params]; rfl) (served_softPending h) rfl

/-- R197: with 01h the command gives the cause set as it was, and leaves it empty. -/
theorem sysCause_clears (params : f.params = [0x01]) :
    serveCommand (plain cmdSysCause) f s =
      granted f [s.sys.causes.code] ((met f.pins s).setSys { s.sys with causes := ResetSet.none }) :=
  serveCommand_done h (by rw [params]; rfl) (served_softPending h) rfl

end

/-- Settles O16: the reply of SYS.CAUSE on the state that the frame met, by its parameters; the payload is the code of the
cause set before the command. -/
theorem sysCauseReadsAndClears : Obligations.SysCauseReadsAndClears := by
  unfold Obligations.SysCauseReadsAndClears
  intro f s h
  refine ⟨s.sys.causes.code, resetSet_bits s.sys.causes, fun read => ?_, fun clear => ?_, fun b params above => ?_,
    fun other => ?_⟩
  · exact congrArg Host.Outcome.next (sysCause_reads h read)
  · exact congrArg Host.Outcome.next (sysCause_clears h clear)
  · have refuse : cmdSysCause f.params (met f.pins s) = fail .param (met f.pins s) := by
      rw [params, cmdSysCause_of_gt above]
    exact congrArg Host.Outcome.next (serveCommand_fail h refuse (by decide))
  · exact congrArg Host.Outcome.next (serveCommand_fail h (cmdSysCause_of_length other _) (by decide))

end Sys2Proof.ResetPowerUpAndPins
end

section
/-! PROOFS. What an effect leaves in range, and what the operations of cues and channels leave alone. -/

open Sys2Proof Sys2Proof.Machine

namespace Sys2Proof.SoundStates

/-! ## The ranges of the blocks -/

/-- R19: the lifetime of an open window. -/
def WindowInRange (p : Port) : Prop := ∀ w, p.window = some w → 1 ≤ w.remaining ∧ w.remaining ≤ 10

/-- R129: the lanes keep their capacities, whatever waits to enter them. -/
def LanesInRange (u : NoticeUnit) : Prop := u.urgent.length ≤ 4 ∧ u.routine.length ≤ 16

/-- R30, R33: the divider, which rests while no ticks are processed. -/
def DividerInRange (s : State) : Prop :=
  s.time.divider < periodsPerTick s.time.rate ∧ (s.time.running = false ∨ s.sys.phase ≠ .ready → s.time.divider = 0)

/-- Table 6-1: the length and the run of a line's filter. -/
def LineInRange (l : Line) : Prop := 1 ≤ l.length ∧ l.length ≤ 8 ∧ l.runCount ≤ 8

/-- R111, R121: the filters and the edge log. -/
def EdgesInRange (u : EdgeUnit) : Prop :=
  (∀ i : Fin 8, LineInRange u.lines[i]) ∧ u.log.length ≤ 64 ∧ 1 ≤ u.threshold ∧ u.threshold ≤ 64

/-- `StandSound` without the phase: what the states of the stand-in engine hold, and the standby copy. -/
def StandInRange (x : StandIn) (running : Bool) : Prop :=
  (∀ y, x.standby = some y → y.sound) ∧
  match x.state with
  | .host => x.causes = Causes.none ∧ x.active = none ∧ x.pos = 0
  | .run => x.causes ≠ Causes.none ∧ running = true ∧ ∃ y, x.active = some y ∧ y.sound ∧ x.pos < y.length
  | .ended => x.causes ≠ Causes.none ∧ running = true ∧
      ∃ y, x.active = some y ∧ y.sound ∧ y.mode = .once ∧ x.pos = y.length
  | .safe => x.causes ≠ Causes.none ∧ running = true ∧ x.active = none ∧ x.pos = 0

/-- Table 8-1: the warden's configuration, and its items between events. -/
structure WardenInRange (w : Warden) : Prop where
  shortest : 2 ≤ w.tMax.toNat
  longest : w.tMax.toNat ≤ 60000
  closed : w.tMin.toNat < w.tMax.toNat
  leastStrikes : 1 ≤ w.threshold
  mostStrikes : w.threshold ≤ 3
  elapsed : w.elapsed.toNat < w.tMax.toNat
  strikes : w.strikes < w.threshold
  hrst : w.hrst ≤ 20
  run : w.fsafeRun ≤ 2
  off : w.armed = false → w.elapsed = 0 ∧ w.closedPhase = false ∧ w.strikes = 0 ∧ w.expected = 0
  unwatched : w.fsafeEnable = false → w.fsafeAsserted = false ∧ w.fsafeRun = 0

/-- What an effect of an event keeps, the stand-in engine and the warden apart: the phase, the pins and what the port ignores stay
as they are, and every block stays in its range. -/
structure Held (s t : State) : Prop where
  phase : t.sys.phase = s.sys.phase
  pins : t.pins = s.pins
  ignoring : t.port.ignoring = s.port.ignoring
  window : WindowInRange s.port → WindowInRange t.port
  memories : MemoriesCanonical s → MemoriesCanonical t
  journal : JournalSound s → JournalSound t
  lanes : LanesInRange s.notes → LanesInRange t.notes
  divider : DividerInRange s → DividerInRange t
  frozen : s.cues.frozenDur ≤ 2 ^ 30 → t.cues.frozenDur ≤ 2 ^ 30
  edges : EdgesInRange s.edges → EdgesInRange t.edges

/-- What an effect of an event keeps. -/
structure Kept (s t : State) : Prop extends Held s t where
  stand : StandInRange s.stand s.time.running → StandInRange t.stand t.time.running
  ward : WardenInRange s.ward → WardenInRange t.ward

theorem Held.refl (s : State) : Held s s := ⟨rfl, rfl, rfl, id, id, id, id, id, id, id⟩

theorem Held.trans {s t u : State} (h : Held s t) (k : Held t u) : Held s u :=
  ⟨k.phase.trans h.phase, k.pins.trans h.pins, k.ignoring.trans h.ignoring, k.window ∘ h.window, k.memories ∘ h.memories,
    k.journal ∘ h.journal, k.lanes ∘ h.lanes, k.divider ∘ h.divider, k.frozen ∘ h.frozen, k.edges ∘ h.edges⟩

theorem Kept.refl (s : State) : Kept s s := ⟨.refl s, id, id⟩

theorem Kept.trans {s t u : State} (h : Kept s t) (k : Kept t u) : Kept s u :=
  ⟨h.toHeld.trans k.toHeld, k.stand ∘ h.stand, k.ward ∘ h.ward⟩

/-- Effects that are kept each are kept one after another. -/
theorem Kept.foldl {α : Type} {f : State → α → State} (h : ∀ s a, Kept s (f s a)) (l : List α) (s : State) :
    Kept s (l.foldl f s) :=
  List.foldlRecOn l f (.refl s) fun _ ht a _ => ht.trans (h _ a)

theorem Kept.ite {s t u : State} {c : Prop} [Decidable c] (h : Kept s t) (k : Kept s u) : Kept s (if c then t else u) := by
  split
  · exact h
  · exact k

/-! ## Updates of one block -/

theorem Held.setWard (s : State) (x : Warden) : Held s (s.setWard x) := ⟨rfl, rfl, rfl, id, id, id, id, id, id, id⟩

theorem Held.setStand (s : State) (x : StandIn) : Held s (s.setStand x) := ⟨rfl, rfl, rfl, id, id, id, id, id, id, id⟩

theorem Kept.setWard {s : State} {x : Warden} (h : WardenInRange s.ward → WardenInRange x) : Kept s (s.setWard x) :=
  ⟨.setWard s x, id, h⟩

theorem Kept.setStand {s : State} {x : StandIn}
    (h : StandInRange s.stand s.time.running → StandInRange x s.time.running) : Kept s (s.setStand x) :=
  ⟨.setStand s x, h, id⟩

theorem Kept.setPort {s : State} {x : Port} (ignoring : x.ignoring = s.port.ignoring)
    (h : WindowInRange s.port → WindowInRange x) : Kept s (s.setPort x) :=
  ⟨⟨rfl, rfl, ignoring, h, id, id, id, id, id, id⟩, id, id⟩

/-- R162: in stand-in the timebase goes on running. -/
theorem Kept.setTime {s : State} {x : Timebase}
    (running : s.stand.state ≠ .host → s.time.running = true → x.running = true)
    (h : DividerInRange s → DividerInRange (s.setTime x)) : Kept s (s.setTime x) := by
  refine ⟨⟨rfl, rfl, rfl, id, id, id, id, h, id, id⟩, fun ⟨standby, state⟩ => ⟨standby, ?_⟩, id⟩
  simp only [State.setTime_stand, State.setTime_time]
  cases e : s.stand.state <;> simp only [e] at state ⊢
  · exact state
  all_goals
    obtain ⟨causes, on, rest⟩ := state
    exact ⟨causes, running (by simp [e]) on, rest⟩

/-- What leaves rate, divider and RUNNING alone. -/
theorem Kept.setTime_of_same {s : State} {x : Timebase} (rate : x.rate = s.time.rate) (divider : x.divider = s.time.divider)
    (running : x.running = s.time.running) : Kept s (s.setTime x) :=
  .setTime (fun _ h => running.trans h) fun h => by
    simpa [DividerInRange, rate, divider, running] using h

theorem Kept.setNotes {s : State} {x : NoticeUnit} (h : LanesInRange s.notes → LanesInRange x) : Kept s (s.setNotes x) :=
  ⟨⟨rfl, rfl, rfl, id, id, id, h, id, id, id⟩, id, id⟩

theorem Kept.setEdges {s : State} {x : EdgeUnit} (h : EdgesInRange s.edges → EdgesInRange x) : Kept s (s.setEdges x) :=
  ⟨⟨rfl, rfl, rfl, id, id, id, id, id, id, h⟩, id, id⟩

theorem Kept.setStore {s : State} {x : Store} (memories : MemoriesCanonical s → MemoriesCanonical (s.setStore x))
    (journal : JournalSound s → JournalSound (s.setStore x)) : Kept s (s.setStore x) :=
  ⟨⟨rfl, rfl, rfl, id, memories, journal, id, id, id, id⟩, id, id⟩

theorem Kept.setCues {s : State} {x : CueTable} (h : s.cues.frozenDur ≤ 2 ^ 30 → x.frozenDur ≤ 2 ^ 30) :
    Kept s (s.setCues x) :=
  ⟨⟨rfl, rfl, rfl, id, id, id, id, id, h, id⟩, id, id⟩

theorem Kept.setSys {s : State} {x : SysCtl} (phase : x.phase = s.sys.phase) : Kept s (s.setSys x) :=
  ⟨⟨phase, rfl, rfl, id, id, id, id, fun h => by simpa [DividerInRange, phase] using h, id, id⟩, id, id⟩

/-! ## What the operations of cues and channels leave alone -/

/-- The state without what the operations of cues and channels change: channels, the cue table but for the frozen duration, the
notices that wait for the end of the event, and the stand-in engine's masked count. -/
def uncued (s : State) : State :=
  { s with
    chans := Vector.replicate 16 Channel.reset
    cues := { CueTable.reset with frozenDur := s.cues.frozenDur }
    notes := { s.notes with raised := [] }
    stand := { s.stand with masked := 0 } }

/-- No range is about those items. -/
theorem Kept.of_uncued {s t : State} (h : uncued t = uncued s) : Kept s t :=
  have into : Kept s (uncued s) := ⟨⟨rfl, rfl, rfl, id, id, id, id, id, id, id⟩, id, id⟩
  have back : Kept (uncued t) t := ⟨⟨rfl, rfl, rfl, id, id, id, id, id, id, id⟩, id, id⟩
  into.trans (h ▸ back)

theorem uncued_setCues (s : State) (x : CueTable) (h : x.frozenDur = s.cues.frozenDur) :
    uncued (s.setCues x) = uncued s := by
  simp only [uncued, State.setCues, h]

@[simp] theorem uncued_raise (c : NoticeClass) (h t d : Half) (s : State) : uncued (raise c h t d s) = uncued s := rfl

@[simp] theorem uncued_setCue (n : Fin 48) (c : Cue) (s : State) : uncued (s.setCue n c) = uncued s := rfl

@[simp] theorem uncued_setChans (x : Vector Channel 16) (s : State) : uncued (s.setChans x) = uncued s := rfl

@[simp] theorem uncued_countMasked (m : Half) (s : State) : uncued (countMasked m s) = uncued s := rfl

@[simp] theorem uncued_unlist (n : Fin 48) (s : State) : uncued (unlist n s) = uncued s := rfl

@[simp] theorem uncued_freeSlot (n : Fin 48) (s : State) : uncued (freeSlot n s) = uncued s := rfl

@[simp] theorem uncued_cutSlot (m : Half) (w : Option (Fin 48)) (s : State) (n : Fin 48) :
    uncued (cutSlot m w s n) = uncued s := by
  simp only [cutSlot]
  repeat' split
  all_goals rfl

@[simp] theorem uncued_cutBy (m : Half) (w : Option (Fin 48)) (s : State) : uncued (cutBy m w s) = uncued s :=
  foldl_keeps (g := uncued) (uncued_cutSlot m w) _ s

@[simp] theorem uncued_driveAndCut (m : Half) (k : LevelKind) (w : Option (Fin 48)) (s : State) :
    uncued (driveAndCut m k w s) = uncued s := by
  rw [driveAndCut, uncued_cutBy, uncued_setChans]

@[simp] theorem uncued_place (n : Fin 48) (s : State) : uncued (place n s) = uncued s := by
  unfold place
  repeat' split
  all_goals rfl

/-- Raising a notice or not, by some condition. -/
theorem uncued_ite_raise {p : Prop} [Decidable p] (c : NoticeClass) (h t d : Half) (s : State) :
    uncued (if p then raise c h t d s else s) = uncued s := by
  split
  · rfl
  · rfl

@[simp] theorem uncued_endSeries (n : Fin 48) (cause : Nat) (s : State) : uncued (endSeries n cause s) = uncued s := by
  unfold endSeries
  cases s.cueAt n with
  | none => rfl
  | some c =>
    dsimp only
    split
    · rw [uncued_setCue, uncued_unlist, uncued_ite_raise]
    · rw [uncued_freeSlot, uncued_ite_raise]

@[simp] theorem uncued_reschedule (n : Fin 48) (s : State) : uncued (reschedule n s) = uncued s := by
  unfold reschedule
  repeat' split
  all_goals simp

@[simp] theorem uncued_completeOccurrence (n : Fin 48) (s : State) : uncued (completeOccurrence n s) = uncued s := by
  simp only [completeOccurrence]
  repeat' split
  all_goals simp

/-! ### The late rule (R106 to R110) -/

@[simp] theorem uncued_missOccurrences (n : Fin 48) (c : Cue) (k : Nat) (s : State) :
    uncued (missOccurrences n c k s) = uncued s := by
  unfold missOccurrences
  split
  · rfl
  · rfl

@[simp] theorem uncued_lateRule (n : Fin 48) (saturated : Bool) (s : State) :
    uncued (lateRule n saturated s).state = uncued s := by
  simp only [lateRule, lateFire, lateSkip]
  repeat' split
  all_goals simp

/-! ### The cue stage (R85 to R98) -/

@[simp] theorem uncued_trailingEdge (n : Fin 48) (s : State) : uncued (trailingEdge n s) = uncued s := by
  unfold trailingEdge
  repeat' split
  all_goals simp

@[simp] theorem uncued_countFired (n : Fin 48) (c : Cue) (b : Bool) (s : State) :
    uncued (countFired n c b s) = uncued s := by
  rw [countFired, uncued_ite_raise]
  exact uncued_setCues _ _ rfl

@[simp] theorem uncued_skipOccurrence (n : Fin 48) (c : Cue) (s : State) : uncued (skipOccurrence n c s) = uncued s := by
  rw [skipOccurrence, uncued_completeOccurrence, uncued_ite_raise]
  exact uncued_setCues _ _ rfl

@[simp] theorem uncued_fireAction (n : Fin 48) (c : Cue) (s : State) (l : Led) :
    uncued (fireAction n c s l).1 = uncued s := by
  unfold fireAction
  repeat' split
  all_goals simp

@[simp] theorem uncued_leadingAction (n : Fin 48) (p : State × Led) : uncued (leadingAction n p).1 = uncued p.1 := by
  unfold leadingAction
  repeat' split
  all_goals simp

@[simp] theorem uncued_markOverdue (n : Fin 48) (s : State) : uncued (markOverdue n s) = uncued s := by
  unfold markOverdue
  repeat' split
  all_goals simp

@[simp] theorem uncued_reportConflict (l : Led) (s : State) : uncued (reportConflict l s) = uncued s := by
  unfold reportConflict
  split
  · rfl
  · rfl

/-- R90: the leading actions of a tick, one after another. -/
theorem uncued_leads (leads : List (Fin 48)) (p : State × Led) :
    uncued (leads.foldl (fun p n => leadingAction n p) p).1 = uncued p.1 := by
  induction leads generalizing p with
  | nil => rfl
  | cons n rest ih => rw [List.foldl_cons, ih, uncued_leadingAction]

theorem uncued_cueStage (s : State) : uncued (cueStage s) = uncued s := by
  unfold cueStage
  rw [uncued_reportConflict, uncued_leads,
    foldl_keeps (f := fun s n => trailingEdge n s) (g := uncued) fun s n => uncued_trailingEdge n s,
    foldl_keeps (f := fun s n => markOverdue n s) (g := uncued) fun s n => uncued_markOverdue n s]

/-! ### Hooked cues and programs (R102, R103, R168) -/

@[simp] theorem uncued_hookSlot (line : Fin 8) (rising : Bool) (s : State) (n : Fin 48) :
    uncued (hookSlot line rising s n) = uncued s := by
  unfold hookSlot
  repeat' split
  all_goals simp

@[simp] theorem uncued_hookEdge (line : Fin 8) (rising : Bool) (s : State) : uncued (hookEdge line rising s) = uncued s :=
  foldl_keeps (g := uncued) (uncued_hookSlot line rising) _ s

theorem uncued_applyStep (s : State) (x : ProgramStep) : uncued (applyStep s x) = uncued s := uncued_driveAndCut ..

/-! ### The commands (R73 to R79, R105) -/

@[simp] theorem uncued_settleDue (n : Fin 48) (c : Cue) (due : Tick) (cls : DueClass) (s : State) :
    uncued (settleDue n c due cls s).state = uncued s := by
  cases cls <;> simp [settleDue, cueDone, done]

@[simp] theorem uncued_cancelSlot (m : CancelMode) (n : Fin 48) (s : State) : uncued (cancelSlot m n s).2 = uncued s := by
  unfold cancelSlot
  repeat' split
  all_goals simp

theorem uncued_purge (m : CancelMode) (slots : List (Fin 48)) (acc : Nat × Nat × State) :
    uncued (slots.foldl (purgeOne m) acc).2.2 = uncued acc.2.2 := by
  induction slots generalizing acc with
  | nil => rfl
  | cons n rest ih =>
    rw [List.foldl_cons, ih, purgeOne]
    split
    · exact uncued_cancelSlot ..
    · exact uncued_cancelSlot ..

theorem uncued_thaw (s : State) : uncued (thaw s).state = uncued s :=
  List.foldlRecOn (motive := fun t : ThawTally => uncued t.state = uncued s) (overdueSlots s) _ rfl
    fun t ht n _ => (uncued_lateRule n _ t.state).trans ht

end Sys2Proof.SoundStates
end

section
/-! PROOFS. The effects of the clocks, of stand-in, of the warden and of the store keep the blocks in their ranges. -/

open Sys2Proof Sys2Proof.Machine

namespace Sys2Proof.SoundStates

/-! ## Notices and the journal queue (R128, R178, R189, R191) -/

theorem Kept.raise (c : NoticeClass) (h t d : Half) (s : State) : Kept s (raise c h t d s) :=
  .of_uncued (uncued_raise c h t d s)

theorem Kept.startAppend (s : State) : Kept s (startAppend s) := by
  unfold Machine.startAppend
  split
  next => exact .refl s
  next r rest queue =>
    refine .setStore id fun ⟨room, idle⟩ => ⟨?_, fun e => nomatch e⟩
    rw [queue, List.length_cons] at room
    exact Nat.le_of_succ_le room

/-- R178: the head of the queue is taken up, so that an IDLE engine leaves no record behind. -/
theorem journalSound_takeUpJournal {s : State} (room : s.store.queue.length ≤ 4) : JournalSound (takeUpJournal s) := by
  rw [RetainedStoreAndJournal.takeUpJournal_eq]
  split
  next =>
    unfold appendStarted
    split
    next queue => exact ⟨room, fun _ => queue⟩
    next r rest queue =>
      rw [queue, List.length_cons] at room
      exact ⟨Nat.le_of_succ_le room, fun e => nomatch e⟩
  next busy => exact ⟨room, fun idle => absurd idle busy⟩

theorem memories_takeUpJournal {s : State} (h : MemoriesCanonical s) : MemoriesCanonical (takeUpJournal s) := by
  unfold takeUpJournal
  split
  · exact (Kept.startAppend s).memories h
  · exact h

/-- A change of the store that is followed by the engine's look at the journal queue. -/
theorem Kept.takeUpJournal {s : State} {x : Store} (memories : MemoriesCanonical s → MemoriesCanonical (s.setStore x))
    (room : JournalSound s → x.queue.length ≤ 4) : Kept s (takeUpJournal (s.setStore x)) where
  phase := by simp
  pins := by simp
  ignoring := by simp
  window := by simp
  memories h := memories_takeUpJournal (memories h)
  journal h := journalSound_takeUpJournal (room h)
  lanes := by simp
  divider := by simp [DividerInRange]
  frozen := by simp
  edges := by simp
  stand := by simp
  ward := by simp

theorem Kept.queueJournal (k : JournalKind) (d : Byte) (s : State) : Kept s (queueJournal k d s) := by
  unfold Machine.queueJournal
  split
  next room =>
    refine .takeUpJournal id fun _ => ?_
    rw [List.length_append, List.length_singleton]
    exact room
  next => exact (Kept.setStore (x := { s.store with journalLost := satInc s.store.journalLost }) id id).trans (.raise ..)

/-- R177, R178: the engine becomes IDLE. -/
theorem Kept.goIdle (s : State) : Kept s (goIdle s) := .takeUpJournal id fun sound => sound.1

/-! ## Stand-in (R160 to R173) -/

/-- R188: an image that a bank holds has a cycle. -/
theorem image_sound {m : Memory} {k : Bank} {x : Image} (h : bankImage m k = some x) : x.sound := by
  obtain ⟨-, ⟨-, -, length, -⟩, -⟩ := RetainedStoreAndJournal.of_parseImage h
  exact length

/-- R166: the standby copy is the image of a bank. -/
theorem selectImage_sound {a b : Option Image} (ha : ∀ x, a = some x → x.sound) (hb : ∀ x, b = some x → x.sound)
    {x : Image} (h : selectImage a b = some x) : x.sound := by
  unfold selectImage at h
  split at h
  · cases h
  · exact ha x h
  · exact hb x h
  · split at h
    · exact hb x h
    · exact ha x h

theorem Kept.evaluateBanks (s : State) : Kept s (evaluateBanks s) :=
  .setStand fun ⟨_, state⟩ => ⟨fun _ h => selectImage_sound (fun _ => image_sound) (fun _ => image_sound) h, state⟩

theorem Kept.wantEvaluation (s : State) : Kept s (wantEvaluation s) := by
  unfold Machine.wantEvaluation
  split
  · exact .evaluateBanks s
  · exact .setStand id

theorem withCause_ne_none (c : Cause) (x : Causes) : withCause c x ≠ Causes.none := by
  cases c <;> simp [withCause, Causes.none]

/-- R162 step 3: an entry starts the timebase at the beginning of a tick. -/
theorem Kept.startTimebase (s : State) :
    Kept s (s.setTime (if s.time.running = true then s.time else { s.time with running := true, divider := 0 })) := by
  split
  · exact .refl s
  · exact .setTime (fun _ _ => rfl) fun ⟨below, _⟩ => ⟨Nat.zero_lt_of_lt below, fun _ => rfl⟩

theorem uncued_cutEverywhere (m : Half) (s : State) : uncued (cutEverywhere m s) = uncued s :=
  OutputChannels.cutBy_none m s ▸ uncued_cutBy m none s

theorem Held.enteredBlocks (c : Cause) (s : State) : Held s (enteredBlocks c s) := by
  have blocks (x : StandIn) (w : Warden) : Held s ((s.setStand x).setWard w) := (Held.setStand s x).trans (.setWard _ w)
  have timed (x : StandIn) (w : Warden) := (blocks x w).trans (Kept.startTimebase _).toHeld
  exact (timed _ _).trans (Kept.of_uncued (uncued_setChans _ _)).toHeld

theorem Held.entered (c : Cause) (s : State) : Held s (entered c s) := by
  have cut := Kept.of_uncued (uncued_cutEverywhere (ownedMask s) (Machine.enteredBlocks c s))
  exact (Held.enteredBlocks c s).trans (cut.trans ((Kept.raise ..).trans (.queueJournal ..))).toHeld

theorem entered_stand (c : Cause) (s : State) : (entered c s).stand = (enteredBlocks c s).stand := queueJournal_stand ..

theorem entered_time (c : Cause) (s : State) : (entered c s).time = (enteredBlocks c s).time := queueJournal_time ..

theorem entered_ward (c : Cause) (s : State) : (entered c s).ward = { s.ward with beatSince := false } := queueJournal_ward ..

theorem enteredBlocks_running (c : Cause) (s : State) : (enteredBlocks c s).time.running = true := by
  show (if s.time.running = true then s.time else { s.time with running := true, divider := 0 }).running = true
  split
  · assumption
  · rfl

/-- The indicator of beats is in no range. -/
theorem WardenInRange.beatSince {w : Warden} (h : WardenInRange w) (beat : Bool) :
    WardenInRange { w with beatSince := beat } :=
  ⟨h.shortest, h.longest, h.closed, h.leastStrikes, h.mostStrikes, h.elapsed, h.strikes, h.hrst, h.run, h.off, h.unwatched⟩

theorem Kept.entered (c : Cause) (s : State) : Kept s (entered c s) where
  toHeld := .entered c s
  stand := fun ⟨sound, _⟩ => by
    rw [entered_stand, entered_time, enteredBlocks_running]
    refine ⟨sound, ?_⟩
    cases standby : s.stand.standby with
    | none => simp [enteredBlocks, standby, withCause_ne_none]
    | some x => simpa [enteredBlocks, standby, withCause_ne_none] using ⟨sound x standby, sound x standby⟩
  ward h := by
    rw [entered_ward]
    exact h.beatSince false

theorem Kept.requestStandin (c : Cause) (s : State) : Kept s (requestStandin c s) := by
  unfold Machine.requestStandin
  split
  next => exact TheWarden.enterStandin_eq c s ▸ .entered c s
  next away =>
    refine .setStand fun ⟨standby, state⟩ => ⟨standby, ?_⟩
    have causes : s.stand.causes.add c ≠ Causes.none := TheWarden.add_eq_withCause _ c ▸ withCause_ne_none c _
    dsimp only at state ⊢
    split at state
    · contradiction
    · exact ⟨causes, state.2⟩
    · exact ⟨causes, state.2⟩
    · exact ⟨causes, state.2⟩

theorem Kept.returnToHost (s : State) : Kept s (returnToHost s) := by
  refine Kept.trans ?_ ((Kept.raise ..).trans (.queueJournal ..))
  refine Kept.trans (t := leaveStandin s) (.setStand fun ⟨standby, _⟩ => ⟨standby, rfl, rfl, rfl⟩) ?_
  exact .ite (.evaluateBanks _) (.refl _)

/-! ### The program (R168, R169) -/

theorem Kept.cycleEnd {s : State} (due : cycleEndDue s = true) : Kept s (cycleEnd s) := by
  unfold cycleEndDue at due
  unfold Machine.cycleEnd
  split at due
  next => cases due
  next x active =>
    obtain ⟨run, -⟩ := Bool.and_eq_true_iff.1 due
    rw [beq_iff_eq] at run
    split
    next =>
      refine .setStand fun ⟨standby, state⟩ => ⟨standby, ?_⟩
      simp only [run] at state ⊢
      obtain ⟨causes, running, y, same, sound, -⟩ := state
      exact ⟨causes, running, y, same, sound, sound⟩
    next once =>
      refine .setStand fun ⟨standby, state⟩ => ⟨standby, ?_⟩
      simp only [run] at state ⊢
      obtain ⟨causes, running, y, same, sound, -⟩ := state
      rw [active] at same
      cases same
      exact ⟨causes, running, x, active, sound, once, rfl⟩

/-- R168 step 2: short of the end of the cycle the position goes on. -/
theorem Kept.advance {s : State} (run : s.stand.state = .run) : Kept s (advance s) := by
  unfold Machine.advance
  split
  next due => exact .cycleEnd due
  next notDue =>
    refine .setStand fun ⟨standby, state⟩ => ⟨standby, ?_⟩
    simp only [run] at state ⊢
    obtain ⟨causes, running, x, active, sound, pos⟩ := state
    refine ⟨causes, running, x, active, sound, Nat.lt_of_le_of_ne pos fun e => notDue ?_⟩
    simp [cycleEndDue, active, run, e]

theorem Kept.standStage (s : State) : Kept s (standStage s) := by
  unfold Machine.standStage
  split
  next run =>
    split
    next => exact .refl s
    next x _ =>
      refine (Kept.foldl (fun u y => .of_uncued (uncued_applyStep u y)) _ s).trans (.advance ?_)
      rw [StandInMode.foldl_applyStep_stand, run]
  next => exact .refl s

/-! ## Edges (R112 to R120) -/

theorem Kept.setLine {s : State} {n : Fin 8} {l : Line} (h : EdgesInRange s.edges → LineInRange l) :
    Kept s (s.setLine n l) := by
  refine .setEdges fun sound => ⟨fun i => ?_, sound.2⟩
  simp only [Fin.getElem_fin, Vector.getElem_set]
  split
  · exact h sound
  · exact sound.1 i

theorem Kept.storeEdge (line : Fin 8) (rising : Bool) {s : State} (room : s.edges.log.length < Config.logSize) :
    Kept s (storeEdge line rising s) := by
  have stored (r : EdgeRecord) (capture : Half) :
      Kept s (s.setEdges { s.edges with log := s.edges.log ++ [r], capture := capture, gapPending := false }) :=
    .setEdges fun ⟨lines, _, threshold⟩ => ⟨lines, List.length_append.trans_le room, threshold⟩
  exact .ite ((stored ..).trans (.raise ..)) (stored ..)

theorem Kept.loseEdge (s : State) : Kept s (loseEdge s) :=
  (Kept.setEdges (x := { s.edges with lost := satInc s.edges.lost }) id).trans (.raise ..)

theorem markOldest_length (l : List EdgeRecord) : (markOldest l).length = l.length := by cases l <;> rfl

/-- R118, R119: at a full log the newest record takes the place of the oldest, or is lost. -/
theorem Kept.overflowEdge (line : Fin 8) (rising : Bool) {s : State} (full : ¬s.edges.log.length < Config.logSize) :
    Kept s (overflowEdge line rising s) := by
  unfold Machine.overflowEdge
  dsimp only
  split
  · exact (Kept.setEdges (x := { s.edges with capture := s.edges.capture + 1, gapPending := true }) id).trans (.loseEdge _)
  · refine (Kept.setEdges fun ⟨lines, log, threshold⟩ => ⟨lines, ?_, threshold⟩).trans (.loseEdge _)
    simp only [Config.logSize] at full
    simp [markOldest_length]
    omega

theorem Kept.logEdge (line : Fin 8) (rising : Bool) (s : State) : Kept s (logEdge line rising s) := by
  unfold Machine.logEdge
  split
  · split
    next room => exact .storeEdge line rising room
    next full => exact .overflowEdge line rising full
  · exact .refl s

theorem Kept.qualifyEdge (n : Fin 8) (s : State) : Kept s (qualifyEdge n s) := by
  unfold Machine.qualifyEdge
  split
  next => exact .refl s
  next rising _ =>
    have line : Kept s (s.setLine n { s.edges.lines[n] with filtered := if rising then .high else .low }) :=
      .setLine fun sound => sound.1 n
    exact line.trans ((Kept.logEdge n rising _).trans (.of_uncued (uncued_hookEdge ..)))

/-- R113 step 1: a run is counted up to 8. -/
theorem LineInRange.sample {l : Line} (h : LineInRange l) (high : Bool) : LineInRange (l.sample high) := by
  obtain ⟨least, most, -⟩ := h
  unfold Line.sample
  split
  · exact ⟨least, most, Nat.min_le_right ..⟩
  · exact ⟨least, most, Nat.le_add_left 1 7⟩

theorem Kept.sampleLine (s : State) (n : Fin 8) : Kept s (sampleLine s n) := by
  unfold Machine.sampleLine
  dsimp only
  split
  · exact .setLine fun sound => (sound.1 n).sample _
  · refine Kept.trans (.setLine fun sound => (sound.1 n).sample _) (.qualifyEdge n _)

/-! ## The tick (R36) -/

theorem Kept.countTick (s : State) : Kept s (countTick s) := by
  refine Kept.trans (t := s.setTime { s.time with tick := s.time.tick + 1, divider := 0 })
    (.setTime (fun _ on => on) fun ⟨below, _⟩ => ⟨Nat.zero_lt_of_lt below, fun _ => rfl⟩) ?_
  exact .ite (.setCues fun _ => Nat.min_le_right ..) (.refl _)

theorem Kept.tickEffects (s : State) : Kept s (Machine.standStage (cueStage (edgeStage (Machine.countTick s)))) :=
  (Kept.countTick s).trans ((Kept.foldl Kept.sampleLine _ _).trans
    ((Kept.of_uncued (uncued_cueStage _)).trans (.standStage _)))

/-! ## The warden (R143 to R150) -/

theorem Kept.startWindow {s : State} (closed : Bool) (h : closed = true → s.ward.armed = true) :
    Kept s (startWindow closed s) :=
  .setWard fun w =>
    { w with
      elapsed := Nat.lt_of_lt_of_le Nat.zero_lt_two w.shortest
      off := fun disarmed =>
        have := w.off disarmed
        ⟨rfl, Bool.eq_false_of_not_eq_true fun e => by simp [h e] at disarmed, this.2.2⟩ }

theorem requested_ward (c : Cause) (s : State) : ∃ beat, (requested c s).ward = { s.ward with beatSince := beat } := by
  rw [← TheWarden.requestStandin_eq]
  rcases requestStandin_ward c s with same | cleared
  · exact ⟨s.ward.beatSince, same⟩
  · exact ⟨false, cleared⟩

/-- R148: the state with a fault recorded, before its response. -/
def faultNoted (k : FaultKind) (s : State) : State :=
  queueJournal .wardenFault k.code (raise .wardenFault 0 0 (k.code ++ byteN (s.ward.strikes + 1))
    (s.setWard { s.ward with lastFault := k, faults := s.ward.faults + 1, strikes := s.ward.strikes + 1 }))

/-- R149: the stand-in part of the response. -/
def standInRequested (s : State) : State := if s.ward.respStandin = true then requested .warden s else s

/-- R149, R150: the response. -/
def responded (s : State) : State :=
  let t := standInRequested s
  let t := if s.ward.respHrst = true then t.setWard { t.ward with hrst := 20 } else t
  t.setWard { t.ward with strikes := 0 }

/-- R150: the nHRST pulse starts or goes on as it was. -/
theorem responded_eq (s : State) :
    responded s = (standInRequested s).setWard { (standInRequested s).ward with
      strikes := 0, hrst := if s.ward.respHrst = true then 20 else (standInRequested s).ward.hrst } := by
  unfold responded
  split
  · rfl
  · rfl

theorem faultNoted_ward (k : FaultKind) (s : State) :
    (faultNoted k s).ward =
      { s.ward with lastFault := k, faults := s.ward.faults + 1, strikes := s.ward.strikes + 1 } := queueJournal_ward ..

theorem wardenFault_noted (k : FaultKind) (s : State) :
    wardenFault k s =
      if s.ward.strikes + 1 = s.ward.threshold then responded (faultNoted k s) else faultNoted k s := by
  have ward := faultNoted_ward k s
  simp only [TheWarden.wardenFault_eq, responded, standInRequested, ward]
  rfl

theorem Held.faultNoted (k : FaultKind) (s : State) : Held s (faultNoted k s) :=
  (Held.setWard s _).trans ((Kept.raise ..).trans (.queueJournal ..)).toHeld

theorem Kept.standInRequested (s : State) : Kept s (standInRequested s) :=
  .ite (TheWarden.requestStandin_eq .warden s ▸ Kept.requestStandin .warden s) (.refl s)

theorem standInRequested_ward (s : State) : ∃ beat, (standInRequested s).ward = { s.ward with beatSince := beat } := by
  unfold standInRequested
  split
  · exact requested_ward .warden s
  · exact ⟨s.ward.beatSince, rfl⟩

/-- R148, R149: an armed warden stays in its ranges: the last strike brings the response, which clears the strikes. -/
theorem Kept.wardenFault (k : FaultKind) {s : State} (armed : s.ward.armed = true) : Kept s (wardenFault k s) := by
  have noted := faultNoted_ward k s
  have stand : (faultNoted k s).stand = s.stand := queueJournal_stand ..
  have time : (faultNoted k s).time = s.time := queueJournal_time ..
  rw [wardenFault_noted]
  split
  next last =>
    have requested := Kept.standInRequested (faultNoted k s)
    rw [responded_eq]
    refine ⟨(Held.faultNoted k s).trans (requested.toHeld.trans (.setWard _ _)), fun h => ?_, fun h => ?_⟩
    · exact requested.stand (by rwa [stand, time])
    · obtain ⟨beat, ward⟩ := standInRequested_ward (faultNoted k s)
      simp only [State.setWard_ward, ward, noted]
      exact
        { h with
          strikes := h.leastStrikes
          hrst := by
            split
            · exact le_rfl
            · exact h.hrst
          off := fun off => absurd (armed.symm.trans off) Bool.noConfusion }
  next short =>
    refine ⟨Held.faultNoted k s, fun h => by rwa [stand, time], fun h => ?_⟩
    rw [noted]
    exact
      { h with
        strikes := Nat.lt_of_le_of_ne h.strikes short
        off := fun off => absurd (armed.symm.trans off) Bool.noConfusion }

theorem wardenFault_armed (k : FaultKind) (s : State) : (wardenFault k s).ward.armed = s.ward.armed := by
  rw [wardenFault_noted]
  split
  · obtain ⟨beat, ward⟩ := standInRequested_ward (faultNoted k s)
    simp only [responded_eq, State.setWard_ward, ward, faultNoted_ward]
  · rw [faultNoted_ward]

theorem Kept.wardenTimeout {s : State} (due : timeoutDue s = true) : Kept s (wardenTimeout s) :=
  (Kept.wardenFault .late ((TheWarden.timeoutDue_iff s).1 due).1).trans (.startWindow false Bool.noConfusion)

/-- R144: short of T_max a warden millisecond passes. -/
theorem Kept.passMs {s : State} (armed : s.ward.armed = true)
    (short : WardenInRange s.ward → s.ward.elapsed.toNat + 1 < s.ward.tMax.toNat) : Kept s (passMs s) :=
  .setWard fun h =>
    { h with
      elapsed := lt_of_le_of_lt (by simp [BitVec.toNat_add, Nat.mod_le]) (short h)
      off := fun off => absurd (armed.symm.trans off) Bool.noConfusion }

theorem Kept.wardenStep (s : State) : Kept s (wardenStep s) := by
  unfold Machine.wardenStep
  split
  next => exact .refl s
  next on =>
    have armed : s.ward.armed = true := by simpa using on
    split
    next due => exact .wardenTimeout due
    next notDue =>
      refine .passMs armed fun h => Nat.lt_of_le_of_ne h.elapsed fun e => notDue ?_
      refine (TheWarden.timeoutDue_iff s).2 ⟨armed, BitVec.eq_of_toNat_eq ?_⟩
      rw [BitVec.toNat_add]
      exact (congrArg (· % 2 ^ 16) e).trans (Nat.mod_eq_of_lt s.ward.tMax.isLt)

/-- R144: T_min is short of T_max. -/
theorem Kept.closedPhaseEnd {s : State} (due : closedPhaseEndDue s = true) : Kept s (Machine.passMs s) := by
  unfold closedPhaseEndDue at due
  simp only [Bool.and_eq_true, beq_iff_eq] at due
  obtain ⟨⟨armed, -⟩, reached⟩ := due
  refine .passMs armed fun h => ?_
  have closed := h.closed
  have elapsed := h.elapsed
  have longest := h.longest
  rw [← reached, BitVec.toNat_add] at closed
  simp at closed
  omega

theorem Kept.countHrst (s : State) : Kept s (countHrst s) :=
  .setWard fun h => { h with hrst := (Nat.sub_le ..).trans h.hrst }

/-! ## nFSAFE (R153, R154) -/

theorem Kept.countFsafe (s : State) : Kept s (countFsafe s) := by
  unfold Machine.countFsafe
  split
  · exact .setWard fun h => { h with }
  · exact .refl s

theorem Kept.fsafeAssert {s : State} (due : fsafeAssertDue s = true) : Kept s (fsafeAssert s) := by
  unfold fsafeAssertDue at due
  simp only [Bool.and_eq_true] at due
  obtain ⟨⟨⟨enable, -⟩, -⟩, -⟩ := due
  refine Kept.trans (.setWard fun h => ?_) (.requestStandin ..)
  exact { h with run := Nat.zero_le 2, unwatched := fun off => absurd (enable.symm.trans off) Bool.noConfusion }

theorem Kept.fsafeClear (s : State) : Kept s (fsafeClear s) := by
  refine (Kept.countFsafe s).trans (Kept.trans (.setWard fun h => ?_) (.raise ..))
  exact { h with run := Nat.zero_le 2, unwatched := fun _ => ⟨rfl, rfl⟩ }

theorem countFsafe_ward (s : State) : ∃ dur, (countFsafe s).ward = { s.ward with fsafeDur := dur } := by
  unfold countFsafe
  split
  · exact ⟨_, rfl⟩
  · exact ⟨s.ward.fsafeDur, rfl⟩

/-- R153: a run of opposing samples ends at the third. -/
theorem Kept.fsafeStep (s : State) : Kept s (fsafeStep s) := by
  unfold Machine.fsafeStep
  split
  next => exact .refl s
  next watched =>
    split
    next due => exact .fsafeAssert due
    next notAsserted =>
      split
      next => exact .fsafeClear s
      next notCleared =>
        refine (Kept.countFsafe s).trans (.setWard fun h => ?_)
        obtain ⟨dur, ward⟩ := countFsafe_ward s
        rw [ward] at h ⊢
        refine { h with run := ?_, unwatched := fun off => absurd off (by simpa using watched) }
        dsimp only
        split
        next opposing =>
          by_contra most
          have third : 2 ≤ s.ward.fsafeRun := by omega
          cases asserted : s.ward.fsafeAsserted <;>
            simp_all [fsafeOpposing, fsafeAssertDue, fsafeClearDue]
        next => exact Nat.zero_le 2

/-! ## The store engine (R177 to R191) -/

theorem Kept.useFree (s : State) : Kept s s.useFree := ⟨⟨rfl, rfl, rfl, id, id, id, id, id, id, id⟩, id, id⟩

theorem Kept.land (takes : Bool) (base : Nat) (data : List Byte) (behind : Nat) (s : State) :
    Kept s (land takes base data behind s) := by
  have written (bytes : List Byte) :
      Kept s (s.setStore { s.store with pages := s.store.pages.writeRun base bytes }) :=
    .setStore (fun h => ⟨Memory.wf_writeRun h.1 _ _, h.2⟩) id
  exact (written _).trans (.useFree _)

theorem Kept.endProgram (page : Fin 32) (data : List Byte) (takes : Bool) (s : State) :
    Kept s (endProgram page data takes s) := by
  have verified (t : State) : Kept t (if takes then t else
      Machine.queueJournal .storeFault (byteN page.val) (Machine.raise .storeFault 0 0 (halfN page.val) t)) :=
    .ite (.refl t) ((Kept.raise ..).trans (.queueJournal ..))
  have evaluated (t : State) : Kept t (if 1 ≤ page.val ∧ page.val ≤ 8 then Machine.wantEvaluation t else t) :=
    .ite (.wantEvaluation t) (.refl t)
  unfold Machine.endProgram
  exact (Kept.land ..).trans ((Kept.raise ..).trans ((verified _).trans ((evaluated _).trans (.goIdle _))))

theorem Kept.programComplete (takes : Bool) (s : State) : Kept s (programComplete takes s) := by
  unfold Machine.programComplete
  split
  · exact .endProgram ..
  · exact .refl s
  · exact .refl s
  · exact .refl s

theorem Kept.appendComplete (takes : Bool) (s : State) : Kept s (appendComplete takes s) := by
  unfold Machine.appendComplete
  split
  · exact (Kept.land ..).trans ((Kept.ite (.refl _) (.raise ..)).trans (.goIdle _))
  · exact .refl s
  · exact .refl s
  · exact .refl s

/-- R177: while an operation is in progress the engine is not IDLE, and the queue stays as it is. -/
theorem Kept.setEngine {s : State} {e : Engine} (busy : e = .idle → s.store.engine = .idle) :
    Kept s (s.setStore { s.store with engine := e }) :=
  .setStore id fun ⟨room, idle⟩ => ⟨room, fun h => idle (busy h)⟩

theorem Kept.wipeStepComplete (takes : Bool) (s : State) : Kept s (wipeStepComplete takes s) := by
  unfold Machine.wipeStepComplete
  split
  · have moved (page remaining failed : Nat) (t : State) :
        Kept t (t.setStore { t.store with engine := .wiping page remaining failed }) := .setEngine Engine.noConfusion
    exact (Kept.land ..).trans ((moved ..).trans (.ite (.refl _) ((Kept.raise ..).trans (.queueJournal ..))))
  · exact .refl s
  · exact .refl s
  · exact .refl s

theorem Kept.wipeComplete (s : State) : Kept s (wipeComplete s) := by
  unfold Machine.wipeComplete
  split
  next failed _ =>
    have unlocked : Kept s (s.setStore { s.store with lockConfig := false, lockStandin := false, lockUser := false }) :=
      .setStore id id
    exact unlocked.trans ((Kept.queueJournal ..).trans ((Kept.raise ..).trans ((Kept.wantEvaluation _).trans (.goIdle _))))
  · exact .refl s
  · exact .refl s
  · exact .refl s

theorem countDown_idle {e : Engine} (h : e.countDown = .idle) : e = .idle := by
  cases e with
  | idle => rfl
  | programming _ _ _ => cases h
  | appending _ _ _ => cases h
  | wiping _ _ _ => cases h

theorem Kept.storeStep (busy takes : Bool) (s : State) : Kept s (storeStep busy takes s) := by
  have advanced : Kept s (advanceStore takes s) :=
    .ite (.programComplete takes s) (.ite (.appendComplete takes s) (.ite (.wipeStepComplete takes s)
      (.ite (.wipeComplete s) (.setEngine countDown_idle))))
  have stepped : Kept s (if busy then advanceStore takes s else s) := .ite advanced (.refl s)
  exact stepped.trans (.takeUpJournal id And.left)

/-! ## The warden-millisecond event (R38) -/

theorem Kept.substitute (s : State) : Kept s (substitute s) := by
  have internal : Kept s (s.setTime { s.time with active := .internal, subst := true }) := .setTime_of_same rfl rfl rfl
  exact internal.trans ((Kept.raise ..).trans (.queueJournal ..))

theorem Kept.clockStep (xinEdge : Bool) (s : State) : Kept s (clockStep xinEdge s) := by
  have sampled : Kept s (updateHistory xinEdge s) := .setTime_of_same rfl rfl rfl
  exact sampled.trans (.ite (.substitute _) (.refl _))

theorem Kept.countMs (s : State) : Kept s (countMs s) := .setTime_of_same rfl rfl rfl

theorem Kept.closeWindow (s : State) : Kept s (closeWindow s) := .setPort rfl fun _ _ h => nomatch h

theorem Kept.windowStep (s : State) : Kept s (windowStep s) := by
  unfold Machine.windowStep
  split
  next => exact .refl s
  next w opened =>
    split
    next => exact .closeWindow s
    next more =>
      refine .setPort rfl fun h v hv => ?_
      cases hv
      obtain ⟨-, most⟩ := h w opened
      exact ⟨Nat.le_sub_one_of_lt (Nat.lt_of_not_le more), (Nat.sub_le ..).trans most⟩

theorem Kept.wardenMsEffects (ms : MsInputs) (s : State) :
    ∃ t, Kept s t ∧ wardenMsSteps ms s = settle t := by
  have first := (Kept.countMs s).trans ((Kept.clockStep ms.xinEdge _).trans (.fsafeStep _))
  refine ⟨_, first.trans ((Kept.wardenStep _).trans (Kept.trans ?_ ((Kept.windowStep _).trans (.storeStep ..)))), rfl⟩
  exact .ite (.refl _) (.countHrst _)

end Sys2Proof.SoundStates
end

section
/-! PROOFS. What the block of every command answers: a refusal that changes nothing, or an effect that keeps the ranges. -/

open Sys2Proof Sys2Proof.Machine

namespace Sys2Proof.SoundStates

/-! ## Answers (R17, R21) -/

/-- R21: the codes that answer ERR_SEQUENCE: the completions, and NOTE.NEXT. -/
abbrev MayMissSequence (code : Byte) : Prop := (windowNeededBy code).isSome = true ∨ code = 0x51

/-- R17: what the block of a command may answer: its effects keep every range and leave the port alone; a refusal has no payload,
and changes nothing unless it is ERR_BEAT; ERR_BEAT and ERR_SEQUENCE come from their commands alone. -/
structure Answered (code : Byte) (s : State) (r : Reply) : Prop where
  kept : Kept s r.state
  port : r.state.port = s.port
  failed : r.status ≠ .ok → r.payload = [] ∧ (r.status ≠ .beat → r.state = s)
  beat : r.status = .beat → code = 0x62
  sequence : r.status = .sequence → MayMissSequence code

section
variable {code : Byte} {s : State} {params : List Byte}

theorem Answered.done {payload : List Byte} {t : State} (kept : Kept s t) (port : t.port = s.port) :
    Answered code s (done payload t) :=
  ⟨kept, port, fun h => absurd rfl h, fun h => (nomatch h), fun h => (nomatch h)⟩

@[simp] theorem answered_same (payload : List Byte) : Answered code s (Machine.done payload s) := .done (.refl s) rfl

@[simp] theorem answered_fail (st : Status) :
    Answered code s (fail st s) ↔ (st = .beat → code = 0x62) ∧ (st = .sequence → MayMissSequence code) :=
  ⟨fun h => ⟨h.beat, h.sequence⟩, fun h => ⟨.refl s, rfl, fun _ => ⟨rfl, fun _ => rfl⟩, h.1, h.2⟩⟩

/-- The errors that every command may answer (Table 1-3): all but ERR_BEAT and ERR_SEQUENCE. -/
def isCommon : Status → Bool
  | .beat | .sequence => false
  | _ => true

/-- A refusal with one of the errors that every command may answer. -/
theorem Answered.fail {st : Status} (common : isCommon st = true) : Answered code s (Machine.fail st s) :=
  (answered_fail st).2 ⟨fun e => by simp [e, isCommon] at common, fun e => by simp [e, isCommon] at common⟩

/-- A refusal with ERR_SEQUENCE. -/
theorem Answered.unsequenced (may : MayMissSequence code) : Answered code s (Machine.fail .sequence s) :=
  (answered_fail _).2 ⟨fun e => (nomatch e), fun _ => may⟩

/-! ## Groups SYS and TIME -/

theorem sysCause_answered : Answered code s (cmdSysCause params s) := by
  unfold cmdSysCause
  repeat' split
  · simp
  · exact .done (.setSys rfl) rfl
  · exact .fail rfl
  · exact .fail rfl

theorem sysResetConfirm_answered : Answered 0x04 s (cmdSysResetConfirm params s) := by
  unfold cmdSysResetConfirm
  repeat' split
  · exact .unsequenced (.inl rfl)
  · exact .done (.setSys rfl) rfl
  · exact .fail rfl
  · exact .fail rfl

theorem sysUnstick_answered : Answered code s (cmdSysUnstick params s) := by
  unfold cmdSysUnstick
  repeat' split
  · exact .fail rfl
  · exact .fail rfl
  next c _ _ _ _ => exact .done (.setNotes fun h => by cases c <;> exact h) rfl
  · exact .fail rfl

theorem sysCommand_answered {cmd : Command} (h : sysCommand code = some cmd) : Answered code s (cmd.body params s) := by
  unfold sysCommand at h
  repeat' split at h
  all_goals cases h
  · simp only [plain, cmdSysStatus]
    split <;> simp
  · simp only [plain, cmdSysIdentify]
    split <;> simp
  · exact sysCause_answered
  · simp only [request, cmdSysResetReq]
    repeat' split
    all_goals simp
  next reset => exact reset ▸ sysResetConfirm_answered
  · exact sysUnstick_answered

theorem timeRun_answered : Answered code s (cmdTimeRun params s) := by
  unfold cmdTimeRun
  repeat' split
  · exact .fail rfl
  · exact .done (.setTime (fun _ _ => rfl) fun ⟨below, _⟩ => ⟨Nat.zero_lt_of_lt below, fun _ => rfl⟩) rfl
  · exact .fail rfl

theorem timeStop_answered : Answered code s (cmdTimeStop params s) := by
  unfold cmdTimeStop
  repeat' split
  · exact .fail rfl
  · exact .fail rfl
  next host =>
    exact .done (.setTime (fun away => absurd (not_not.1 host) away)
      fun ⟨below, _⟩ => ⟨Nat.zero_lt_of_lt below, fun _ => rfl⟩) rfl
  · exact .fail rfl

theorem timeSet_answered : Answered code s (cmdTimeSet params s) := by
  unfold cmdTimeSet
  repeat' split
  · exact .fail rfl
  · exact .fail rfl
  · exact .done (.setTime_of_same rfl rfl rfl) rfl

theorem periodsPerTick_pos (rate : Fin 4) : 0 < periodsPerTick rate := by
  unfold periodsPerTick
  positivity

/-- R30: the rate changes while the timebase is STOPPED, and the divider rests. -/
theorem timeRate_answered : Answered code s (cmdTimeRate params s) := by
  unfold cmdTimeRate
  repeat' split
  · exact .fail rfl
  · exact .fail rfl
  next stopped =>
    refine .done (.setTime (fun _ on => on) fun ⟨_, rests⟩ => ⟨?_, rests⟩) rfl
    rw [State.setTime_time]
    exact (rests (.inl (by simpa using stopped))).trans_lt (periodsPerTick_pos _)
  · exact .fail rfl

theorem timeRestore_answered : Answered code s (cmdTimeRestore params s) := by
  unfold cmdTimeRestore
  repeat' split
  · exact .done (.setTime_of_same rfl rfl rfl) rfl
  · exact .fail rfl
  · exact .fail rfl

theorem timeCommand_answered {cmd : Command} (h : timeCommand code = some cmd) : Answered code s (cmd.body params s) := by
  unfold timeCommand at h
  repeat' split at h
  all_goals cases h
  · simp only [plain, cmdTimeRead]
    split <;> simp
  · exact timeRun_answered
  · exact timeStop_answered
  · exact timeSet_answered
  · exact timeRate_answered
  · exact timeRestore_answered

/-! ## Group CUE -/

/-- An effect on cues and channels alone. -/
theorem Answered.of_uncued {payload : List Byte} {t : State} (same : uncued t = uncued s) :
    Answered code s (Machine.done payload t) := by
  have port : (uncued t).port = (uncued s).port := by rw [same]
  exact .done (.of_uncued same) port

theorem settleDue_answered (n : Fin 48) (c : Cue) (due : Tick) (cls : DueClass) :
    Answered code s (settleDue n c due cls s) := by
  cases cls with
  | late => exact .of_uncued (by simp)
  | acceptable => exact .of_uncued (by simp)
  | beyond => exact .of_uncued (by simp)

theorem cueAdd_answered : Answered code s (cmdCueAdd params s) := by
  simp only [cmdCueAdd, addCue, cueDone]
  repeat' split
  · exact .fail rfl
  · exact .fail rfl
  · exact .fail rfl
  · exact .of_uncued (by simp)
  · exact .fail rfl
  · exact .fail rfl
  · exact .fail rfl
  · exact settleDue_answered ..

theorem cueAmend_answered : Answered code s (cmdCueAmend params s) := by
  simp only [cmdCueAmend]
  repeat' split
  · exact .fail rfl
  · exact .fail rfl
  · exact .fail rfl
  · exact .fail rfl
  · exact .fail rfl
  · exact .fail rfl
  · exact settleDue_answered ..

theorem cueCancel_answered : Answered code s (cmdCueCancel params s) := by
  unfold cmdCueCancel
  repeat' split
  · exact .fail rfl
  · exact .fail rfl
  · exact .fail rfl
  · exact .of_uncued (uncued_cancelSlot ..)
  · exact .fail rfl

theorem cuePurge_answered : Answered code s (cmdCuePurge params s) := by
  unfold cmdCuePurge
  repeat' split
  · exact .fail rfl
  · exact .fail rfl
  · exact .fail rfl
  · exact .of_uncued (uncued_purge ..)
  · exact .fail rfl

theorem cueFreeze_answered : Answered code s (cmdCueFreeze params s) := by
  unfold cmdCueFreeze
  repeat' split
  · exact .fail rfl
  · exact .done (.setCues fun _ => Nat.zero_le _) rfl
  · exact .fail rfl

theorem cueThaw_answered : Answered code s (cmdCueThaw params s) := by
  unfold cmdCueThaw
  repeat' split
  · exact .fail rfl
  · exact .of_uncued (uncued_thaw s)
  · exact .fail rfl

theorem cueCommand_answered {cmd : Command} (h : cueCommand code = some cmd) : Answered code s (cmd.body params s) := by
  unfold cueCommand at h
  repeat' split at h
  all_goals cases h
  · exact cueAdd_answered
  · exact cueCancel_answered
  · exact cueAmend_answered
  · simp only [plain, cmdCueQuery]
    repeat' split
    all_goals simp
  · simp only [plain, cmdCueList, listReply]
    repeat' split
    all_goals simp
  · simp only [plain, cmdCueHooks, listReply]
    repeat' split
    all_goals simp
  · exact cuePurge_answered
  · exact cueFreeze_answered
  · exact cueThaw_answered
  · simp only [plain, cmdCueStatus]
    split <;> simp

/-! ## Groups CHAN, EDGE and NOTE -/

theorem chanSetup_answered : Answered code s (cmdChanSetup params s) := by
  simp only [cmdChanSetup]
  repeat' split
  · exact .fail rfl
  · exact .fail rfl
  · exact .of_uncued (uncued_setChans ..)
  · exact .fail rfl
  · exact .fail rfl
  · exact .fail rfl

theorem chanForce_answered : Answered code s (cmdChanForce params s) := by
  simp only [cmdChanForce]
  repeat' split
  · exact .fail rfl
  · exact .fail rfl
  · exact .fail rfl
  · exact .of_uncued (uncued_driveAndCut ..)
  · exact .fail rfl

theorem chanSeal_answered : Answered code s (cmdChanSeal params s) := by
  simp only [cmdChanSeal]
  repeat' split
  · exact .fail rfl
  · exact .of_uncued (uncued_setChans ..)
  · exact .fail rfl

theorem chanCommand_answered {cmd : Command} (h : chanCommand code = some cmd) : Answered code s (cmd.body params s) := by
  unfold chanCommand at h
  repeat' split at h
  all_goals cases h
  · exact chanSetup_answered
  · exact chanForce_answered
  · exact chanSeal_answered
  · simp only [plain, cmdChanRead]
    split <;> simp

theorem edgeSetup_answered : Answered code s (cmdEdgeSetup params s) := by
  unfold cmdEdgeSetup
  repeat' split
  · exact .fail rfl
  next valid => exact .done (.setLine fun _ => ⟨valid.1, valid.2, Nat.zero_le 8⟩) rfl
  · exact .fail rfl
  · exact .fail rfl
  · exact .fail rfl

theorem edgePolicy_answered : Answered code s (cmdEdgePolicy params s) := by
  unfold cmdEdgePolicy
  repeat' split
  · exact .fail rfl
  next valid => exact .done (.setEdges fun ⟨lines, log, _⟩ => ⟨lines, log, valid⟩) rfl
  · exact .fail rfl
  · exact .fail rfl

theorem edgeRead_answered : Answered code s (cmdEdgeRead params s) := by
  unfold cmdEdgeRead
  repeat' split
  · refine .done (.setEdges fun ⟨lines, log, threshold⟩ => ⟨lines, ?_, threshold⟩) rfl
    exact (List.length_drop.trans_le (Nat.sub_le ..)).trans log
  · exact .fail rfl
  · exact .fail rfl

theorem edgeFlush_answered : Answered code s (cmdEdgeFlush params s) := by
  unfold cmdEdgeFlush
  split
  · exact .done (.setEdges fun ⟨lines, _, threshold⟩ => ⟨lines, Nat.zero_le 64, threshold⟩) rfl
  · exact .fail rfl

theorem edgeCommand_answered {cmd : Command} (h : edgeCommand code = some cmd) : Answered code s (cmd.body params s) := by
  unfold edgeCommand at h
  repeat' split at h
  all_goals cases h
  · exact edgeSetup_answered
  · exact edgePolicy_answered
  · exact edgeRead_answered
  · exact edgeFlush_answered
  · simp only [plain, cmdEdgeStatus]
    split <;> simp

/-- R134, R136: the marker of an overflow takes the place that the retired notice left. -/
theorem retired_inRange {u : NoticeUnit} (h : LanesInRange u) (now : Tick) :
    (u.urgent ≠ [] → LanesInRange (retired true u now)) ∧ (u.routine ≠ [] → LanesInRange (retired false u now)) := by
  have refilled {lane : List Notice} (filled : lane ≠ []) (n : Notice) :
      (List.append lane.tail [n]).length = lane.length := by
    obtain ⟨head, rest, rfl⟩ := List.exists_cons_of_ne_nil filled
    exact List.length_append
  have shorter (lane : List Notice) : lane.tail.length ≤ lane.length := by simp
  obtain ⟨urgent, routine⟩ := h
  refine ⟨fun filled => ?_, fun filled => ?_⟩
  · rw [retired, if_pos rfl]
    split
    · exact ⟨(shorter _).trans urgent, routine⟩
    · exact ⟨(refilled filled _).trans_le urgent, routine⟩
  · rw [retired, if_neg Bool.false_ne_true]
    split
    · exact ⟨urgent, (shorter _).trans routine⟩
    · exact ⟨urgent, (refilled filled _).trans_le routine⟩

theorem LanesInRange.acknowledge {u v : NoticeUnit} {seq : Half} {now : Tick} (h : LanesInRange u)
    (acknowledged : u.acknowledge seq now = some v) : LanesInRange v := by
  rw [NoticeUnit.acknowledge, NoticesAndTheAttentionLine.retireUrgent_eq,
    NoticesAndTheAttentionLine.retireRoutine_eq] at acknowledged
  have filled {lane : List Notice} (head : lane.head?.map Notice.seq = some seq) : lane ≠ [] := by
    rintro rfl
    cases head
  split at acknowledged
  next head =>
    cases acknowledged
    exact (retired_inRange h now).1 (filled head)
  next =>
    split at acknowledged
    next head =>
      cases acknowledged
      exact (retired_inRange h now).2 (filled head)
    next => cases acknowledged

theorem noteNext_answered : Answered 0x51 s (cmdNoteNext params s) := by
  unfold cmdNoteNext
  repeat' split
  · exact .unsequenced (.inr rfl)
  next acknowledged => exact .done (.setNotes fun h => h.acknowledge acknowledged) rfl
  · exact .fail rfl

theorem noteEnable_answered : Answered code s (cmdNoteEnable params s) := by
  unfold cmdNoteEnable
  split
  · dsimp only
    split
    · exact .fail rfl
    · exact .done (.setNotes id) rfl
  · exact .fail rfl

theorem noteCommand_answered {cmd : Command} (h : noteCommand code = some cmd) : Answered code s (cmd.body params s) := by
  unfold noteCommand at h
  repeat' split at h
  all_goals cases h
  · simp only [plain, cmdNoteFirst]
    split <;> simp
  next retire => exact retire ▸ noteNext_answered
  · exact noteEnable_answered
  · simp only [plain, cmdNoteStatus]
    split <;> simp

/-! ## Groups WARD and STAND -/

/-- R142: what WARD.SETUP accepts, an OFF warden holds. -/
theorem wardSetup_answered : Answered code s (cmdWardSetup params s) := by
  unfold cmdWardSetup
  split
  · dsimp only
    split
    · exact .fail rfl
    next valid =>
      split
      · exact .fail rfl
      next disarmed =>
        simp only [validTMin, validTMax, validThreshold, Bool.not_eq_true', Bool.not_eq_false, Bool.and_eq_true,
          decide_eq_true_eq] at valid
        obtain ⟨⟨⟨closed, shortest, longest⟩, least, most⟩, -⟩ := valid
        refine .done (.setWard fun h => ?_) rfl
        obtain ⟨elapsed, -, strikes, -⟩ := h.off (Bool.eq_false_of_not_eq_true disarmed)
        exact
          { h with
            shortest, longest, closed, leastStrikes := least, mostStrikes := most
            elapsed := by simpa [elapsed] using Nat.zero_lt_of_lt shortest
            strikes := strikes.trans_lt least }
  · exact .fail rfl

theorem WardenInRange.restarted {w : Warden} (h : WardenInRange w) {armed : Bool} {expected : Byte} {closed : Bool}
    (off : armed = false → closed = false ∧ expected = 0) :
    WardenInRange { w with armed := armed, elapsed := 0, closedPhase := closed, expected := expected, strikes := 0 } :=
  { h with
    elapsed := Nat.lt_of_lt_of_le Nat.zero_lt_two h.shortest
    strikes := h.leastStrikes
    off := fun e => ⟨rfl, (off e).1, rfl, (off e).2⟩ }

theorem Kept.armWarden (s : State) : Kept s (armWarden s) := .setWard fun h => h.restarted fun e => (nomatch e)

theorem wardArm_answered : Answered code s (cmdWardArm params s) := by
  unfold cmdWardArm
  repeat' split
  · exact .fail rfl
  · exact .done (.armWarden s) rfl
  · exact .fail rfl

theorem Kept.badBeat (k : FaultKind) (armed : s.ward.armed = true) : Kept s (badBeat k s).state :=
  (Kept.wardenFault k armed).trans (.startWindow true fun _ => (wardenFault_armed k s).trans armed)

theorem badBeat_answered (k : FaultKind) (armed : s.ward.armed = true) : Answered 0x62 s (badBeat k s) where
  kept := .badBeat k armed
  port := wardenFault_port k s
  failed _ := ⟨rfl, fun h => absurd rfl h⟩
  beat _ := rfl
  sequence h := nomatch h

theorem wardBeat_answered : Answered 0x62 s (cmdWardBeat params s) := by
  unfold cmdWardBeat
  split
  · split
    · exact .fail rfl
    next on =>
      have armed : s.ward.armed = true := by simpa [Warden.off] using on
      repeat' split
      · exact badBeat_answered .early armed
      · exact badBeat_answered .wrongCount armed
      · refine .done (.setWard fun h => ?_) rfl
        exact ((h.restarted (armed := s.ward.armed) fun e => absurd (armed.symm.trans e) Bool.noConfusion).beatSince true)
  · exact .fail rfl

theorem wardDisarmConfirm_answered : Answered 0x64 s (cmdWardDisarmConfirm params s) := by
  unfold cmdWardDisarmConfirm
  repeat' split
  · exact .unsequenced (.inl rfl)
  · exact .fail rfl
  · exact .fail rfl
  · exact .done (.setWard fun h => h.restarted fun _ => ⟨rfl, rfl⟩) rfl
  · exact .fail rfl

theorem wardCommand_answered {cmd : Command} (h : wardCommand code = some cmd) : Answered code s (cmd.body params s) := by
  unfold wardCommand at h
  repeat' split at h
  all_goals cases h
  · exact wardSetup_answered
  · exact wardArm_answered
  next beat => exact beat ▸ wardBeat_answered
  · simp only [request, cmdWardDisarmReq]
    repeat' split
    all_goals simp
  next confirm => exact confirm ▸ wardDisarmConfirm_answered
  · simp only [plain, cmdWardStatus]
    split <;> simp

theorem returnToHost_port : (returnToHost s).port = s.port := by
  simp only [returnToHost, evaluateAtReturn, queueJournal_port, raise_port]
  split
  · exact evaluateBanks_port _
  · rfl

theorem standEnter_answered : Answered code s (cmdStandEnter params s) := by
  unfold cmdStandEnter
  split
  · exact .done (.requestStandin .command s) (requestStandin_port .command s)
  · exact .fail rfl

theorem standReturnConfirm_answered : Answered 0x72 s (cmdStandReturnConfirm params s) := by
  unfold cmdStandReturnConfirm
  repeat' split
  · exact .unsequenced (.inl rfl)
  · exact .fail rfl
  · exact .fail rfl
  · exact .done (.returnToHost s) returnToHost_port
  · exact .fail rfl

theorem standCommand_answered {cmd : Command} (h : standCommand code = some cmd) : Answered code s (cmd.body params s) := by
  unfold standCommand at h
  repeat' split at h
  all_goals cases h
  · exact standEnter_answered
  · simp only [request, cmdStandReturnReq]
    repeat' split
    all_goals simp
  next confirm => exact confirm ▸ standReturnConfirm_answered
  · simp only [plain, cmdStandStatus]
    split <;> simp

/-! ## Group STORE -/

theorem storeLoad_answered : Answered code s (cmdStoreLoad params s) := by
  unfold cmdStoreLoad
  repeat' split
  · exact .fail rfl
  · exact .fail rfl
  · exact .fail rfl
  · exact .done (.setStore (fun h => ⟨h.1, Memory.wf_writeRun h.2 _ _⟩) id) rfl

theorem storeClear_answered : Answered code s (cmdStoreClear params s) := by
  unfold cmdStoreClear
  split
  · exact .done (.setStore (fun h => ⟨h.1, Memory.wf_nil⟩) id) rfl
  · exact .fail rfl

theorem storeProgram_answered : Answered 0x84 s (cmdStoreProgram params s) := by
  unfold cmdStoreProgram
  repeat' split
  · exact .unsequenced (.inl rfl)
  · exact .fail rfl
  · exact .fail rfl
  · exact .done (.setEngine Engine.noConfusion) rfl
  · exact .fail rfl
  · exact .fail rfl

/-- R183: a group is locked, and nothing else changes. -/
theorem addLock_eq_some {b : Byte} {x y : Store} (h : addLock b x = some y) :
    y.pages = x.pages ∧ y.buffer = x.buffer ∧ y.queue = x.queue ∧ y.engine = x.engine := by
  unfold addLock at h
  repeat' split at h
  all_goals cases h
  all_goals exact ⟨rfl, rfl, rfl, rfl⟩

theorem storeLock_answered : Answered code s (cmdStoreLock params s) := by
  unfold cmdStoreLock
  repeat' split
  · exact .fail rfl
  · exact .fail rfl
  next locked _ =>
    obtain ⟨pages, buffer, queue, engine⟩ := addLock_eq_some locked
    refine .done (.setStore (fun h => ?_) fun h => ?_) rfl
    · simpa only [MemoriesCanonical, State.setStore_store, pages, buffer] using h
    · simpa only [JournalSound, State.setStore_store, queue, engine] using h
  · exact .fail rfl

theorem storeWipe_answered : Answered 0x86 s (cmdStoreWipe params s) := by
  unfold cmdStoreWipe
  repeat' split
  · exact .unsequenced (.inl rfl)
  · exact .fail rfl
  · exact .fail rfl
  · exact .done (.setEngine Engine.noConfusion) rfl
  · exact .fail rfl

theorem storeCommand_answered {cmd : Command} (h : storeCommand code = some cmd) : Answered code s (cmd.body params s) := by
  unfold storeCommand at h
  repeat' split at h
  all_goals cases h
  · simp only [plain, cmdStoreRead]
    repeat' split
    all_goals simp
  · exact storeLoad_answered
  · exact storeClear_answered
  · simp only [request, cmdStoreOpen]
    split <;> simp
  next program => exact program ▸ storeProgram_answered
  · exact storeLock_answered
  next wipe => exact wipe ▸ storeWipe_answered
  · simp only [plain, cmdStoreStatus]
    split <;> simp
  · simp only [plain, cmdStoreJournal]
    repeat' split
    all_goals simp

/-! ## The catalogue (R12, R24) -/

theorem commandFor_answered (code : Byte) : Answered code s ((commandFor code).body params s) := by
  have known : ∀ cmd, commandOf code = some cmd → Answered code s (cmd.body params s) := by
    intro cmd h
    unfold commandOf at h
    split at h
    · exact sysCommand_answered h
    · exact timeCommand_answered h
    · exact cueCommand_answered h
    · exact chanCommand_answered h
    · exact edgeCommand_answered h
    · exact noteCommand_answered h
    · exact wardCommand_answered h
    · exact standCommand_answered h
    · exact storeCommand_answered h
    · cases h
  unfold commandFor
  cases h : commandOf code with
  | none => exact .fail rfl
  | some cmd => exact known cmd h

end

end Sys2Proof.SoundStates
end

section
/-! PROOFS. The invariants through the ends of events, transactions and resets. -/

open Sys2Proof Sys2Proof.Machine

namespace Sys2Proof.SoundStates

/-! ## The invariants by their ranges -/

theorem standSound_iff (s : State) :
    StandSound s ↔ (NotYet 7 s → s.stand.state = .host) ∧ StandInRange s.stand s.time.running := by
  unfold StandSound StandInRange
  refine and_congr_right fun _ => and_congr_right fun _ => ?_
  cases s.stand.state <;> exact Iff.rfl

theorem wardenSound_iff (s : State) :
    WardenSound s ↔ WardenInRange s.ward ∧ (NotYet 6 s → s.ward.armed = false) ∧
      (s.sys.phase ≠ .ready → s.ward.fsafeAsserted = false ∧ s.ward.fsafeRun = 0) := by
  constructor
  · rintro ⟨a, b, c, d, e, f, g, h, i, j, k, rest⟩
    exact ⟨⟨a, b, c, d, e, f, g, h, i, j, k⟩, rest⟩
  · rintro ⟨⟨a, b, c, d, e, f, g, h, i, j, k⟩, rest⟩
    exact ⟨a, b, c, d, e, f, g, h, i, j, k, rest⟩

theorem rangesSound_iff (s : State) :
    RangesSound s ↔
      WindowInRange s.port ∧ DividerInRange s ∧ s.cues.frozenDur ≤ 2 ^ 30 ∧ EdgesInRange s.edges := by
  unfold RangesSound DividerInRange EdgesInRange
  exact ⟨fun ⟨a, b, c, d, e⟩ => ⟨a, ⟨b, c⟩, d, e⟩, fun ⟨a, ⟨b, c⟩, d, e⟩ => ⟨a, b, c, d, e⟩⟩

theorem lanesSound_iff (s : State) : LanesSound s ↔ LanesInRange s.notes ∧ s.notes.raised = [] := by
  unfold LanesSound LanesInRange
  exact and_assoc.symm

theorem not_notYet_of_ready {s : State} (ready : s.sys.phase = .ready) (k : Nat) : ¬NotYet k s := by
  simp [NotYet, ready]

/-- What the effects of one event keep, up to its end: the invariants, but for the notices that wait and for the output pins. -/
structure Carried (s t : State) : Prop where
  pins : t.pins = s.pins
  memories : MemoriesCanonical s → MemoriesCanonical t
  journal : JournalSound s → JournalSound t
  lanes : LanesInRange s.notes → LanesInRange t.notes
  stand : StandSound s → StandSound t
  ward : WardenSound s → WardenSound t
  ranges : RangesSound s → RangesSound t
  ignoring : IgnoringSound s → IgnoringSound t

/-- Every invariant of the store, the lanes, the pins and the blocks, kept from one state to another. -/
structure Keeps (s t : State) : Prop where
  memories : MemoriesCanonical s → MemoriesCanonical t
  journal : JournalSound s → JournalSound t
  lanes : LanesSound s → LanesSound t
  pins : PinsShown s → PinsShown t
  stand : StandSound s → StandSound t
  ward : WardenSound s → WardenSound t
  ranges : RangesSound s → RangesSound t
  ignoring : IgnoringSound s → IgnoringSound t

theorem Carried.refl (s : State) : Carried s s := ⟨rfl, id, id, id, id, id, id, id⟩

theorem Carried.trans {s t u : State} (h : Carried s t) (k : Carried t u) : Carried s u :=
  ⟨k.pins.trans h.pins, k.memories ∘ h.memories, k.journal ∘ h.journal, k.lanes ∘ h.lanes, k.stand ∘ h.stand,
    k.ward ∘ h.ward, k.ranges ∘ h.ranges, k.ignoring ∘ h.ignoring⟩

theorem Keeps.refl (s : State) : Keeps s s := ⟨id, id, id, id, id, id, id, id⟩

theorem Keeps.trans {s t u : State} (h : Keeps s t) (k : Keeps t u) : Keeps s u :=
  ⟨k.memories ∘ h.memories, k.journal ∘ h.journal, k.lanes ∘ h.lanes, k.pins ∘ h.pins, k.stand ∘ h.stand, k.ward ∘ h.ward,
    k.ranges ∘ h.ranges, k.ignoring ∘ h.ignoring⟩

theorem Held.ranges {s t : State} (h : Held s t) : RangesSound s → RangesSound t := by
  rw [rangesSound_iff, rangesSound_iff]
  exact fun ⟨window, divider, frozen, edges⟩ => ⟨h.window window, h.divider divider, h.frozen frozen, h.edges edges⟩

theorem Held.ignoringSound {s t : State} (h : Held s t) : IgnoringSound s → IgnoringSound t := by
  unfold IgnoringSound
  rw [h.phase, h.pins, h.ignoring]
  exact id

/-- At a ready port no block rests because of the phase. -/
theorem Kept.carried {s t : State} (h : Kept s t) (ready : s.sys.phase = .ready) : Carried s t := by
  have still : t.sys.phase = .ready := h.phase.trans ready
  refine ⟨h.pins, h.memories, h.journal, h.lanes, ?_, ?_, h.ranges, h.ignoringSound⟩
  · rw [standSound_iff, standSound_iff]
    exact fun ⟨_, range⟩ => ⟨fun early => absurd early (not_notYet_of_ready still 7), h.stand range⟩
  · rw [wardenSound_iff, wardenSound_iff]
    exact fun ⟨range, _⟩ =>
      ⟨h.ward range, fun early => absurd early (not_notYet_of_ready still 6), fun away => absurd still away⟩

/-! ## The end of an event (R128, R129) -/

section
variable {u : NoticeUnit} (h : LanesInRange u)
include h

theorem LanesInRange.setSticky (c : NoticeClass) (x : Sticky) : LanesInRange (u.setSticky c x) := by cases c <;> exact h

theorem LanesInRange.drop (c : NoticeClass) : LanesInRange (u.drop c) := by
  unfold NoticeUnit.drop
  split
  · exact h
  · exact h

/-- R128: a notice joins its lane where there is room. -/
theorem LanesInRange.append {r : Raised} (room : ¬u.laneFull r.cls = true) (detail : Half) :
    LanesInRange (u.append r detail) := by
  obtain ⟨urgent, routine⟩ := h
  cases lane : r.cls.urgent
  · rw [TimebaseAndTicks.laneFull_routine u lane, Nat.not_le] at room
    rw [TimebaseAndTicks.append_routine u detail lane]
    exact ⟨urgent, List.length_append.trans_le room⟩
  · rw [TimebaseAndTicks.laneFull_urgent u lane, Nat.not_le] at room
    rw [TimebaseAndTicks.append_urgent u detail lane]
    exact ⟨List.length_append.trans_le room, routine⟩

theorem LanesInRange.enter (r : Raised) : LanesInRange (u.enter r) := by
  simp only [NoticeUnit.enter]
  split
  · exact h
  · split
    · split
      · exact h.drop _
      next room => exact h.append room _
    next k _ =>
      have counted := h.setSticky r.cls { k with count := satInc k.count }
      split
      · exact counted
      · split
        · exact counted.drop _
        next room => exact (counted.append room _).setSticky _ _

theorem LanesInRange.enterAll : LanesInRange u.enterAll :=
  List.foldlRecOn (motive := LanesInRange) u.raised NoticeUnit.enter h fun _ hv r _ => hv.enter r

end

theorem Carried.settle {s t : State} (h : Carried s t) : Keeps s (settle t) where
  memories := h.memories
  journal := h.journal
  lanes := by
    rw [lanesSound_iff, lanesSound_iff]
    exact fun ⟨lanes, _⟩ => ⟨(h.lanes lanes).enterAll, rfl⟩
  pins shown := by
    obtain ⟨-, -, -, -, miso⟩ := shown
    exact TimebaseAndTicks.pinsShown_settle t (by rw [h.pins]; exact miso)
  stand := h.stand
  ward := h.ward
  ranges := h.ranges
  ignoring := h.ignoring

/-- A ready event ends. -/
theorem Kept.settle {s t : State} (h : Kept s t) (ready : s.sys.phase = .ready) : Keeps s (settle t) :=
  (h.carried ready).settle

/-- A change of port, timebase and counters that touches nothing the pins show. -/
theorem Kept.keeps {s t : State} (h : Kept s t) (chans : t.chans = s.chans) (notes : t.notes = s.notes)
    (ward : t.ward = s.ward) (stand : t.stand = s.stand) : Keeps s t where
  memories := h.memories
  journal := h.journal
  lanes := by
    unfold LanesSound
    rw [notes]
    exact id
  pins := by
    unfold PinsShown OutputsHeld NotYet
    rw [h.phase, h.pins, chans, notes, ward]
    exact id
  stand := by
    rw [standSound_iff, standSound_iff]
    unfold NotYet
    rw [h.phase]
    exact fun ⟨early, range⟩ => ⟨fun e => stand ▸ early e, h.stand range⟩
  ward := by
    unfold WardenSound NotYet
    rw [h.phase, ward]
    exact id
  ranges := h.ranges
  ignoring := h.ignoringSound

theorem Keeps.setPort {s : State} {x : Port} (ignoring : x.ignoring = s.port.ignoring)
    (h : WindowInRange s.port → WindowInRange x) : Keeps s (s.setPort x) := (Kept.setPort ignoring h).keeps rfl rfl rfl rfl

theorem Keeps.setPending (s : State) (q : List Instr) : Keeps s (s.setPending q) := ⟨id, id, id, id, id, id, id, id⟩

/-! ## Resets (R195, R201) -/

/-- A reset brings every invariant about; the pages keep their form, and MISO follows nCS. -/
theorem Keeps.takeReset (k : ResetKind) (s : State) : Keeps s (takeReset k s) := by
  obtain ⟨-, -, -, -, -, journal, lanes, pins, -, -, -, -, -, stand, ward, ranges, -⟩ :=
    OutputChannels.invariantsHoldAtReset
  refine ⟨fun h => ⟨tornPages_wf s h.1, Memory.wf_nil⟩, fun _ => journal, fun _ => lanes, fun _ => ?_, fun _ => stand,
    fun _ => ward, fun _ => ranges, fun _ h => nomatch h⟩
  obtain ⟨held, shown, attn, hrst, -⟩ := pins
  exact ⟨held, shown, attn, hrst, rfl⟩

theorem Keeps.nCsRises (s : State) : Keeps s (nCsRises s) := by
  unfold Machine.nCsRises
  split
  · exact .takeReset .soft s
  · exact .refl s

theorem Keeps.meetInputs (pins : InPins) (s : State) : Keeps s (meetInputs pins s) where
  memories := id
  journal := id
  lanes := id
  pins := fun ⟨held, shown, attn, hrst, _⟩ => ⟨held, shown, attn, hrst, rfl⟩
  stand := id
  ward := id
  ranges := id
  ignoring h going := by
    obtain ⟨ignoring, low⟩ := Bool.and_eq_true_iff.1 going
    have fell : pins.nCs = false := by simpa using low
    exact ⟨(h ignoring).1, fell⟩

theorem Keeps.meetPins (pins : InPins) (s : State) : Keeps s (meetPins pins s) := by
  unfold Machine.meetPins
  split
  · exact (Keeps.nCsRises s).trans (.meetInputs pins _)
  · exact .meetInputs pins s

/-! ## Transactions (R2 to R13, R22) -/

theorem Keeps.useFree (s : State) : Keeps s s.useFree := ⟨id, id, id, id, id, id, id, id⟩

theorem Keeps.respond (x : Span) (seq : Byte) (st : Status) (payload : List Byte) (replayed : Bool) (s : State) :
    Keeps s (respond x seq st payload replayed s) := by
  have port (response : List Byte) (miso : List Bool) :
      Keeps s (s.setPort { s.port with response := response, miso := miso }) := .setPort rfl id
  exact (port ..).trans (.useFree _)

theorem Keeps.noResponse (clocks : Nat) (s : State) : Keeps s (noResponse clocks s) := .setPort rfl id

/-- R19: a window opens with the full lifetime. -/
theorem windowInRange_portAfter (opens : Option WindowKind) (seq : Byte) (r : Reply) (p : Port) :
    WindowInRange (portAfter opens seq r p) := by
  intro w opened
  have life : ∀ k, opens.map (fun k => Window.mk k Config.windowLife) = some k → k.remaining = 10 := by
    cases opens with
    | none => exact fun _ h => nomatch h
    | some kind => rintro _ ⟨⟩; rfl
  simp only [portAfter] at opened
  split at opened
  · rw [life w opened]
    decide
  · cases opened

theorem Kept.finish {s : State} {r : Reply} (h : Kept s r.state) (ready : s.sys.phase = .ready) (opens : Option WindowKind)
    (x : Span) (seq : Byte) : Keeps s (finish opens x seq r) := by
  have answered := (h.settle ready).trans ((Keeps.setPort (x := portAfter opens seq r (Machine.settle r.state).port) rfl
    fun _ => windowInRange_portAfter opens seq r _).trans (.respond x seq r.status r.payload false _))
  unfold Machine.finish softAtOnce
  dsimp only
  split
  · exact answered.trans (.nCsRises _)
  · exact answered

theorem Keeps.serveIntact {s : State} (ready : s.sys.phase = .ready) (code : Byte) (x : Span) (seq : Byte)
    (params : List Byte) : Keeps s (serveIntact (commandFor code) x seq params s) := by
  unfold Machine.serveIntact replay
  split
  · split
    · exact .refl s
    · exact .respond ..
  · exact (commandFor_answered code).kept.finish ready ..

theorem Keeps.unevaluated (s : State) : Keeps s (closeWindow (countError s)) :=
  (Keeps.setPort (x := { s.port with errors := satInc s.port.errors }) rfl id).trans
    (.setPort rfl fun _ _ h => nomatch h)

theorem Keeps.abortFrame (clocks : Nat) (s : State) : Keeps s (abortFrame clocks s) :=
  (Keeps.unevaluated s).trans (.noResponse ..)

theorem Keeps.evaluate {s : State} (ready : s.sys.phase = .ready) (bits : List Bool) : Keeps s (evaluate bits s) := by
  unfold Machine.evaluate
  dsimp only
  split
  · exact .refl s
  · exact .abortFrame ..
  · exact Kept.finish (r := fail .format s) (.refl s) ready ..
  · exact (Keeps.unevaluated s).trans (.respond ..)
  · exact .serveIntact ready ..

theorem Keeps.refuse (bits : List Bool) (s : State) : Keeps s (refuse bits s) := by
  unfold Machine.refuse
  split
  · exact .refl s
  · exact .abortFrame ..

theorem Keeps.stopIgnoring (s : State) : Keeps s (stopIgnoring s) where
  memories := id
  journal := id
  lanes := id
  pins := id
  stand := id
  ward := id
  ranges := id
  ignoring _ h := nomatch h

/-- R22: a transaction is served by a ready port alone. -/
theorem Keeps.whenReady (clocks : Nat) (fresh : Bool) (pins : InPins) {serve : State → State}
    (served : ∀ t, t.sys.phase = .ready → Keeps t (serve t)) (s : State) : Keeps s (whenReady clocks fresh pins serve s) := by
  refine (Keeps.nCsRises s).trans ?_
  unfold Machine.whenReady
  generalize Machine.nCsRises s = u
  dsimp only
  split
  next => exact (Keeps.meetInputs pins u).trans (.noResponse ..)
  next on =>
    have ready : u.sys.phase = .ready := by
      by_contra away
      exact on (by simp [ignores, away])
    exact (Keeps.stopIgnoring u).trans ((Keeps.meetInputs pins _).trans (served _ ready))

/-! ## Events of the clocks (R33, R36, R38, log 5) -/

theorem Keeps.occur {s : State} {due : Bool} {effect : State → State} (kept : due = true → Kept s (effect s)) :
    Keeps s (occur due effect s) := by
  unfold Machine.occur
  split
  next on =>
    rw [Bool.and_eq_true, beq_iff_eq] at on
    exact (kept on.2).settle on.1
  next => exact .refl s

theorem Keeps.inTick {s : State} {due : Bool} {effect : State → State} (kept : due = true → Kept s (effect s)) :
    Keeps s (inTick due effect s) := .occur fun on => kept (Bool.and_eq_true_iff.1 on).2

theorem Keeps.tick (s : State) : Keeps s (tick s) := by
  unfold Machine.tick
  split
  next on =>
    unfold ticking at on
    rw [Bool.and_eq_true, beq_iff_eq] at on
    exact (Kept.tickEffects s).settle on.1
  next => exact .refl s

/-- R27: the detector is in no range. -/
theorem Kept.setXinSeen (s : State) (seen : Bool) : Kept s (s.setTime { s.time with xinSeen := seen }) :=
  .setTime_of_same rfl rfl rfl

theorem Keeps.wardenMsEvent (ms : MsInputs) (s : State) : Keeps s (wardenMsEvent ms s) := by
  unfold Machine.wardenMsEvent
  split
  next => exact .refl s
  next =>
    have counted : Kept s (wardenMsEarly ms s) := (Kept.countMs s).trans (.setXinSeen _ _)
    exact counted.keeps rfl rfl rfl rfl
  next ready =>
    obtain ⟨t, kept, steps⟩ := Kept.wardenMsEffects ms s
    exact steps ▸ kept.settle ready

/-- R30: below the count of the rate the divider goes on; at it, it begins again. -/
theorem Keeps.sourcePeriod (s : State) : Keeps s (sourcePeriod s) := by
  have seen : Keeps s (seePeriod s) := by
    unfold seePeriod
    split
    · exact (Kept.setXinSeen s true).keeps rfl rfl rfl rfl
    · exact .refl s
  refine seen.trans ?_
  unfold Machine.sourcePeriod dividePeriod
  split
  next on =>
    unfold ticking at on
    rw [Bool.and_eq_true, beq_iff_eq] at on
    obtain ⟨ready, running⟩ := on
    have counted (n : Nat) (below : n < periodsPerTick (seePeriod s).time.rate) :
        Keeps (seePeriod s) ((seePeriod s).setTime { (seePeriod s).time with divider := n }) := by
      have kept : Kept (seePeriod s) ((seePeriod s).setTime { (seePeriod s).time with divider := n }) := by
        refine .setTime (fun _ on => on) fun _ => ⟨below, fun rests => ?_⟩
        rcases rests with stopped | away
        · exact absurd (running.symm.trans stopped) Bool.noConfusion
        · exact absurd ready away
      exact kept.keeps rfl rfl rfl rfl
    split
    next below => exact counted _ below
    next => exact (counted 0 (periodsPerTick_pos _)).trans (.setPending ..)
  next => exact .refl _

end Sys2Proof.SoundStates
end

section
/-! PROOFS. The invariants through the power-up sequence and every row. -/

open Sys2Proof Sys2Proof.Machine

namespace Sys2Proof.SoundStates

/-! ## The configuration record (R187) -/

/-- R187: the values of the record of page 0, or the defaults, are storable. -/
theorem values_storable (m : Memory) : (classRecord (m.page 0)).values.storable := by
  have defaults : ConfigRecord.defaults.storable := by
    refine ⟨by decide, by decide, by decide, by decide, by decide, fun i => ?_, fun i => ?_⟩
    · simp [ConfigRecord.defaults, Channel.reset]
    · simp [ConfigRecord.defaults]
  cases h : classRecord (m.page 0) with
  | erased => exact defaults
  | valid c =>
    have length : (m.page 0).length = 64 := by simp [Memory.page, Memory.readRun]
    exact (RetainedStoreAndJournal.configBytes_of_classRecord length h).1
  | bad => exact defaults

/-! ## One step of the sequence (R199, R200) -/

/-- R200: the phase after a step. -/
theorem notYet_stepDone {d : Fin 9} {u : State} {k : Nat} (h : NotYet k (stepDone (d.val + 1) u)) : d.val + 1 < k := by
  unfold stepDone at h
  split at h
  · rcases h with inReset | ⟨e, phase, lt⟩
    · cases inReset
    · cases phase
      exact lt
  · exact absurd h (not_notYet_of_ready rfl k)

theorem divider_stepDone {s u : State} {i : Nat} (away : u.sys.phase ≠ .ready) (h : DividerInRange s → DividerInRange u) :
    DividerInRange s → DividerInRange (stepDone i u) := by
  intro range
  obtain ⟨below, rests⟩ := h range
  have zero := rests (.inr away)
  unfold stepDone
  split
  · exact ⟨below, fun _ => zero⟩
  · exact ⟨below, fun _ => zero⟩

theorem Kept.countMsTimes (n : Nat) (s : State) : Kept s (countMsTimes n s) := by
  unfold Machine.countMsTimes
  induction n with
  | zero => exact .refl s
  | succ n ih => exact ih.trans (.countMs _)

theorem countMsTimes_ward (n : Nat) (s : State) : (Machine.countMsTimes n s).ward = s.ward := by
  unfold Machine.countMsTimes
  induction n with
  | zero => rfl
  | succ n ih => exact ih

theorem Kept.reportReset (k : RecordClass) (s : State) : Kept s (reportReset k s) := by
  have config (u : State) : Kept u (reportConfig k u) := by
    unfold reportConfig
    split
    · exact .refl u
    · exact .refl u
    · exact (Kept.raise ..).trans (.queueJournal ..)
  exact (Kept.queueJournal ..).trans (config _)

theorem reportReset_ward (k : RecordClass) (s : State) : (Machine.reportReset k s).ward = s.ward := by
  unfold Machine.reportReset reportConfig
  split <;> simp

section
variable {s u : State} {d : Fin 9} (phase : s.sys.phase = .poweringUp d)
include phase

theorem notYet_of_phase {k : Nat} (h : d.val < k) : NotYet k s := .inr ⟨d, phase, h⟩

/-- A step that is done keeps the invariants, if its effect leaves the stand-in engine and the warden as they must be up to then. -/
theorem carried_stepDone (held : Held s u)
    (stand : StandSound s → StandInRange u.stand u.time.running ∧ (d.val + 1 < 7 → u.stand.state = .host))
    (ward : WardenSound s → WardenInRange u.ward ∧ (d.val + 1 < 6 → u.ward.armed = false) ∧
      u.ward.fsafeAsserted = false ∧ u.ward.fsafeRun = 0) : Carried s (stepDone (d.val + 1) u) := by
  have blocks : (stepDone (d.val + 1) u).pins = u.pins ∧ (stepDone (d.val + 1) u).store = u.store ∧
      (stepDone (d.val + 1) u).notes = u.notes ∧ (stepDone (d.val + 1) u).stand = u.stand ∧
      (stepDone (d.val + 1) u).ward = u.ward ∧ (stepDone (d.val + 1) u).time = u.time ∧
      (stepDone (d.val + 1) u).port.window = u.port.window ∧ (stepDone (d.val + 1) u).cues = u.cues ∧
      (stepDone (d.val + 1) u).edges = u.edges := by
    unfold stepDone
    split
    · exact ⟨rfl, rfl, rfl, rfl, rfl, rfl, rfl, rfl, rfl⟩
    · exact ⟨rfl, rfl, rfl, rfl, rfl, rfl, rfl, rfl, rfl⟩
  obtain ⟨pins', store', notes', stand', ward', time', window', cues', edges'⟩ := blocks
  have away : u.sys.phase ≠ .ready := by rw [held.phase, phase]; exact Phase.noConfusion
  refine ⟨pins'.trans held.pins, ?_, ?_, ?_, ?_, ?_, ?_, ?_⟩
  · unfold MemoriesCanonical at *
    rw [store']
    exact held.memories
  · unfold JournalSound at *
    rw [store']
    exact held.journal
  · rw [notes']
    exact held.lanes
  · rw [standSound_iff (stepDone _ u), stand', time']
    exact fun h => ⟨fun early => (stand h).2 (notYet_stepDone early), (stand h).1⟩
  · rw [wardenSound_iff (stepDone _ u), ward']
    exact fun h => ⟨(ward h).1, fun early => (ward h).2.1 (notYet_stepDone early), fun _ => (ward h).2.2⟩
  · rw [rangesSound_iff, rangesSound_iff]
    unfold WindowInRange
    rw [window', cues', edges']
    exact fun ⟨window, divider, frozen, edges⟩ =>
      ⟨held.window window, divider_stepDone away held.divider divider, held.frozen frozen, held.edges edges⟩
  · intro sound going
    have idle : u.port.ignoring = false := by
      rw [held.ignoring]
      refine Bool.eq_false_of_not_eq_true fun on => ?_
      exact absurd (phase.symm.trans (sound on).1) Phase.noConfusion
    unfold stepDone at going ⊢
    split at going
    · exact absurd (idle.symm.trans going) Bool.noConfusion
    next last =>
      rw [dif_neg last]
      exact ⟨rfl, by simpa [becomeReady] using going⟩

/-- A step that keeps the ranges, and leaves alone what must rest until a later step. -/
theorem Kept.stepDone (kept : Kept s u) (host : d.val + 1 < 7 → u.stand.state = s.stand.state)
    (off : d.val + 1 < 6 → u.ward.armed = s.ward.armed)
    (fsafe : u.ward.fsafeAsserted = s.ward.fsafeAsserted ∧ u.ward.fsafeRun = s.ward.fsafeRun) :
    Carried s (stepDone (d.val + 1) u) := by
  have away : s.sys.phase ≠ .ready := by rw [phase]; exact Phase.noConfusion
  refine carried_stepDone phase kept.toHeld ?_ ?_
  · rw [standSound_iff]
    exact fun ⟨early, range⟩ =>
      ⟨kept.stand range, fun lt => (host lt).trans (early (notYet_of_phase phase (by omega)))⟩
  · rw [wardenSound_iff, fsafe.1, fsafe.2]
    exact fun ⟨range, early, rest⟩ =>
      ⟨kept.ward range, fun lt => (off lt).trans (early (notYet_of_phase phase (by omega))), rest away⟩

/-- R199 step 1: the configuration of an OFF warden, and the filter lengths. -/
theorem carried_applyConfig (first : d = 0) : Carried s (stepDone 1 (applyConfig (classRecord (s.store.pages.page 0)) s)) := by
  subst first
  obtain ⟨shortest, longest, closed, least, most, -, lengths⟩ := values_storable s.store.pages
  generalize classRecord (s.store.pages.page 0) = k at *
  have filters (u : State) : Kept u (u.setEdges { u.edges with
      lines := Vector.ofFn fun i => { u.edges.lines[i] with length := k.values.lengths[i] } }) := by
    refine .setEdges fun h => ⟨fun i => ?_, h.2⟩
    simp only [Fin.getElem_fin, Vector.getElem_ofFn]
    exact ⟨(lengths i).1, (lengths i).2, (h.1 i).2.2⟩
  have outcome : Kept s (s.setSys { s.sys with outcome := k.outcome }) := .setSys rfl
  have applied : Held s (applyConfig k s) := outcome.toHeld.trans ((Held.setWard _ _).trans (filters _).toHeld)
  refine carried_stepDone phase applied ?_ ?_
  · rw [standSound_iff]
    exact fun ⟨early, range⟩ => ⟨range, fun _ => early (notYet_of_phase phase (by decide))⟩
  · rw [wardenSound_iff]
    intro ⟨range, early, rest⟩
    have off := early (notYet_of_phase phase (by decide))
    obtain ⟨elapsed, -, strikes, -⟩ := range.off off
    have quiet := rest (by rw [phase]; exact Phase.noConfusion)
    refine ⟨{ range with
      shortest, longest, closed, leastStrikes := least, mostStrikes := most
      elapsed := ?_
      strikes := ?_
      unwatched := fun _ => quiet }, fun _ => off, quiet⟩
    · exact (congrArg BitVec.toNat elapsed).trans_lt (Nat.lt_of_lt_of_le Nat.zero_lt_two shortest)
    · exact strikes.trans_lt least

/-- R199 step 5: the timebase starts or not while the part is in HOST. -/
theorem carried_startTimebase (fifth : d = 4) (c : ConfigRecord) : Carried s (stepDone 5 (startTimebase c s)) := by
  subst fifth
  have away : s.sys.phase ≠ .ready := by rw [phase]; exact Phase.noConfusion
  have held : Held s (startTimebase c s) := by
    refine ⟨rfl, rfl, rfl, id, id, id, id, fun ⟨_, rests⟩ => ⟨?_, fun _ => rests (.inr away)⟩, id, id⟩
    exact (rests (.inr away)).trans_lt (periodsPerTick_pos _)
  refine carried_stepDone phase held ?_ ?_
  · rw [standSound_iff]
    intro ⟨early, standby, state⟩
    have host := early (notYet_of_phase phase (by decide))
    rw [host] at state
    refine ⟨⟨standby, ?_⟩, fun _ => host⟩
    show match s.stand.state with | .host => _ | .run => _ | .ended => _ | .safe => _
    rw [host]
    exact state
  · rw [wardenSound_iff]
    exact fun ⟨range, early, rest⟩ => ⟨range, fun _ => early (notYet_of_phase phase (by decide)), rest away⟩

/-- R200 step 6. -/
theorem carried_arm (p : PowerUp) (sixth : d = 5) : Carried s (carryOut p s 6) := by
  subst sixth
  show Carried s (stepDone 6 (if (classRecord (s.store.pages.page 0)).values.autoArm then armWarden s else s))
  split
  · exact Kept.stepDone (d := 5) phase (.armWarden s) (fun _ => rfl) (fun h => absurd h (by decide)) ⟨rfl, rfl⟩
  · exact Kept.stepDone (d := 5) phase (.refl s) (fun _ => rfl) (fun _ => rfl) ⟨rfl, rfl⟩

/-- R200 step 7. -/
theorem carried_enter (p : PowerUp) (seventh : d = 6) : Carried s (carryOut p s 7) := by
  subst seventh
  have entered (c : ConfigRecord) (u : State) :
      Kept u (enterAtPowerUp c u) ∧ ∃ beat, (enterAtPowerUp c u).ward = { u.ward with beatSince := beat } := by
    unfold enterAtPowerUp
    split
    · exact ⟨.requestStandin .powerUp u, TheWarden.requestStandin_eq .powerUp u ▸ requested_ward .powerUp u⟩
    · exact ⟨.refl u, u.ward.beatSince, rfl⟩
  obtain ⟨kept, beat, ward⟩ := entered (classRecord (s.store.pages.page 0)).values (countMsTimes p.msBeforeEntry s)
  rw [countMsTimes_ward] at ward
  exact Kept.stepDone (d := 6) phase ((Kept.countMsTimes ..).trans kept) (fun h => absurd h (by decide))
    (fun h => absurd h (by decide)) ⟨(congrArg Warden.fsafeAsserted ward :), (congrArg Warden.fsafeRun ward :)⟩

/-- R200 step 8. -/
theorem carried_report (p : PowerUp) (eighth : d = 7) : Carried s (carryOut p s 8) := by
  subst eighth
  have ward := (reportReset_ward (classRecord (s.store.pages.page 0)) (countMsTimes p.msBeforeRecords s)).trans
    (countMsTimes_ward p.msBeforeRecords s)
  exact Kept.stepDone (d := 7) phase ((Kept.countMsTimes ..).trans (.reportReset ..)) (fun h => absurd h (by decide))
    (fun h => absurd h (by decide)) ⟨congrArg Warden.fsafeAsserted ward, congrArg Warden.fsafeRun ward⟩

/-- R199, R200: every step keeps the invariants. -/
theorem Carried.carryOut (p : PowerUp) : Carried s (carryOut p s (d.val + 1)) := by
  match d, phase with
  | 0, phase => exact carried_applyConfig phase rfl
  | 1, phase => exact Kept.stepDone (d := 1) phase (.setStore id id) (fun _ => rfl) (fun _ => rfl) ⟨rfl, rfl⟩
  | 2, phase => exact Kept.stepDone (d := 2) phase (.evaluateBanks s) (fun _ => rfl) (fun _ => rfl) ⟨rfl, rfl⟩
  | 3, phase => exact Kept.stepDone (d := 3) phase (.of_uncued (uncued_setChans ..)) (fun _ => rfl) (fun _ => rfl) ⟨rfl, rfl⟩
  | 4, phase => exact carried_startTimebase phase rfl _
  | 5, phase => exact carried_arm phase p rfl
  | 6, phase => exact carried_enter phase p rfl
  | 7, phase => exact carried_report phase p rfl
  | 8, phase => exact Kept.stepDone (d := 8) phase (.refl s) (fun _ => rfl) (fun _ => rfl) ⟨rfl, rfl⟩

end

/-! ## The sequence (R199, R200) -/

/-- R199, R200: so do several steps one after another, the ninth being the last. -/
theorem Carried.steps (p : PowerUp) (n : Nat) {d : Fin 9} {s : State} (phase : s.sys.phase = .poweringUp d)
    (most : d.val + n ≤ 9) : Carried s ((List.range' (d.val + 1) n).foldl (Machine.carryOut p) s) := by
  induction n generalizing d s with
  | zero => exact .refl s
  | succ n ih =>
    rw [List.range'_succ, List.foldl_cons]
    refine (Carried.carryOut phase p).trans ?_
    by_cases last : d.val + 1 < 9
    · refine ih (d := ⟨d.val + 1, last⟩) ?_ (by dsimp only; omega)
      rw [Machine.carryOut, stepDone, dif_pos last]
      rfl
    · obtain rfl : n = 0 := by omega
      exact .refl _

theorem Keeps.powerUpFrom (p : PowerUp) {d : Fin 9} {s : State} (phase : s.sys.phase = .poweringUp d) :
    Keeps s (powerUpFrom d.val p s) := (Carried.steps p _ phase (by omega)).settle

/-- R195: the release leaves the blocks at rest. -/
theorem Keeps.release (xinEdge : Bool) (pins : InPins) {s : State} (resetting : s.sys.phase = .inReset) :
    Keeps s (release xinEdge pins s) := by
  refine Keeps.trans ?_ (.meetInputs pins _)
  have early (k : Nat) : NotYet k s := .inl resetting
  have away : s.sys.phase ≠ .ready := by rw [resetting]; exact Phase.noConfusion
  refine ⟨id, id, id, ?_, ?_, ?_, ?_, ?_⟩
  · rintro ⟨held, -, attn, hrst, miso⟩
    refine ⟨fun _ => held (early 4), fun shown => absurd (.inr ⟨0, rfl, by decide⟩) shown, ?_, hrst, miso⟩
    refine iff_of_false (fun low => ?_) fun ready => nomatch ready.1
    exact away (attn.1 low).1
  · rw [standSound_iff, standSound_iff]
    exact fun ⟨host, range⟩ => ⟨fun _ => host (early 7), range⟩
  · rw [wardenSound_iff, wardenSound_iff]
    exact fun ⟨range, off, rest⟩ => ⟨range, fun _ => off (early 6), fun _ => rest away⟩
  · rw [rangesSound_iff, rangesSound_iff]
    exact fun ⟨window, ⟨below, rests⟩, blocks⟩ => ⟨window, ⟨below, fun _ => rests (.inr away)⟩, blocks⟩
  · exact fun sound going => absurd (sound going).1 away

theorem Keeps.powerUp (p : PowerUp) (s : State) : Keeps s (powerUp p s) := by
  unfold Machine.powerUp
  split
  next resetting =>
    exact (Keeps.release p.xinEdge p.pins resetting).trans (.powerUpFrom p (d := 0) rfl)
  next done phase =>
    split
    · have seen : Keeps s (s.setTime { s.time with xinSeen := s.time.xinSeen || p.xinEdge }) :=
        (Kept.setXinSeen s _).keeps rfl rfl rfl rfl
      exact seen.trans ((Keeps.meetInputs p.pins _).trans (.powerUpFrom p phase))
    · exact .refl s
  next => exact .refl s

theorem Keeps.portReady (s : State) : Keeps s (if s.sys.phase = .poweringUp 8 then settle (becomeReady s) else s) := by
  split
  next phase => exact (Kept.stepDone (d := 8) phase (.refl s) (fun _ => rfl) (fun _ => rfl) ⟨rfl, rfl⟩).settle
  next => exact .refl s

/-! ## The rows -/

theorem exec_keeps_of_command {c : Instr} (command : eventClass c = .command) (s : State) :
    ∃ t, exec c s = .next t ∧ Keeps s t := by
  rcases OutputChannels.exec_of_commandClass command with ⟨code, f, row⟩ | ⟨t, row⟩ | ⟨t, row⟩
  · exact ⟨_, row s, .whenReady _ _ _ (fun _ ready => .serveIntact ready ..) s⟩
  · exact ⟨_, row s, .whenReady _ _ _ (fun _ ready => .evaluate ready _) s⟩
  · exact ⟨_, row s, .whenReady _ _ _ (fun u _ => .refuse _ u) s⟩

/-- Every row keeps every invariant. -/
theorem exec_keeps (c : Instr) (s : State) : ∃ t, exec c s = .next t ∧ Keeps s t := by
  by_cases command : eventClass c = .command
  · exact exec_keeps_of_command command s
  · cases c with
    | confirmWindowExpiry => exact ⟨_, rfl, .occur fun _ => .closeWindow s⟩
    | tick pins => exact ⟨_, rfl, (Keeps.meetPins pins s).trans (.tick _)⟩
    | wardenMsEvent ms => exact ⟨_, rfl, (Keeps.meetPins ms.pins s).trans (.wardenMsEvent ms _)⟩
    | clockSubst => exact ⟨_, rfl, .occur fun _ => .substitute s⟩
    | qualifiedEdge line => exact ⟨_, rfl, .inTick fun _ => .qualifyEdge line s⟩
    | trailingEdge slot => exact ⟨_, rfl, .inTick fun _ => .of_uncued (uncued_trailingEdge slot s)⟩
    | leadingAction slot =>
      exact ⟨_, rfl, .inTick fun _ => .of_uncued (uncued_leadingAction slot (s, Led.start))⟩
    | cueOverdue slot => exact ⟨_, rfl, .inTick fun _ => .of_uncued (uncued_markOverdue slot s)⟩
    | wardenTimeout => exact ⟨_, rfl, .occur .wardenTimeout⟩
    | closedPhaseEnd => exact ⟨_, rfl, .occur .closedPhaseEnd⟩
    | nhrstPulseEnd => exact ⟨_, rfl, .occur fun _ => .countHrst s⟩
    | fsafeAssert => exact ⟨_, rfl, .occur .fsafeAssert⟩
    | fsafeClear => exact ⟨_, rfl, .occur fun _ => .fsafeClear s⟩
    | standinCycleEnd => exact ⟨_, rfl, .inTick .cycleEnd⟩
    | storeProgramComplete takes => exact ⟨_, rfl, .occur fun _ => .programComplete takes s⟩
    | wipeStepComplete takes => exact ⟨_, rfl, .occur fun _ => .wipeStepComplete takes s⟩
    | wipeComplete => exact ⟨_, rfl, .occur fun _ => .wipeComplete s⟩
    | journalAppendStart => exact ⟨_, rfl, .occur fun _ => .startAppend s⟩
    | journalAppendComplete takes => exact ⟨_, rfl, .occur fun _ => .appendComplete takes s⟩
    | powerOnReset => exact ⟨_, rfl, .takeReset .powerOn s⟩
    | brownoutReset => exact ⟨_, rfl, .takeReset .brownout s⟩
    | pinReset => exact ⟨_, rfl, .takeReset .pin s⟩
    | softReset => exact ⟨_, rfl, .meetPins _ s⟩
    | powerUpSequence p => exact ⟨_, rfl, .powerUp p s⟩
    | portReady => exact ⟨_, rfl, .portReady s⟩
    | _ => exact absurd rfl command

/-- The front row of the queue, or one period of the active source, keeps every invariant. -/
theorem step_keeps {s t : State} (stepped : step s = .next t) : Keeps s t := by
  unfold step at stepped
  split at stepped
  · cases stepped
    exact .sourcePeriod s
  next c rest _ =>
    obtain ⟨u, row, kept⟩ := exec_keeps c (s.setPending rest)
    cases row.symm.trans stepped
    exact (Keeps.setPending s rest).trans kept

/-- Settles O56: the memories, the journal queue, the lanes and the pins through `step_keeps`. -/
theorem storeLanesAndPinsStaySound : Obligations.StoreLanesAndPinsStaySound := by
  unfold Obligations.StoreLanesAndPinsStaySound
  exact ⟨fun _ _ sound stepped => (step_keeps stepped).memories sound,
    fun _ _ sound stepped => (step_keeps stepped).journal sound,
    fun _ _ sound stepped => (step_keeps stepped).lanes sound,
    fun _ _ sound stepped => (step_keeps stepped).pins sound⟩

/-- Settles O59: the blocks, and what the port ignores, through `step_keeps`. -/
theorem blocksStayInTheirRanges : Obligations.BlocksStayInTheirRanges := by
  unfold Obligations.BlocksStayInTheirRanges
  exact ⟨fun _ _ sound stepped => (step_keeps stepped).stand sound,
    fun _ _ sound stepped => (step_keeps stepped).ward sound,
    fun _ _ sound stepped => (step_keeps stepped).ranges sound,
    fun _ _ sound stepped => (step_keeps stepped).ignoring sound⟩

end Sys2Proof.SoundStates
end

section
/-! PROOFS. Bits, bytes and frames, and the CRC-8 over a frame. -/

open Sys2Proof Sys2Proof.Machine

namespace Sys2Proof.ThePort

/-! ## Bits and bytes (R1) -/

/-- R1: a byte is packed from its bits as they are sent. -/
theorem packBits_msbFirst (b : Byte) : packBits (msbFirst b) = b := by
  refine TheCueTable.byte_eq fun i hi => ?_
  rw [TheCueTable.packBits_getLsbD _ hi]
  interval_cases i <;> rfl

/-- R1: an incomplete byte is discarded. -/
theorem bytesOfBits_incomplete {bits : List Bool} (short : bits.length < 8) : bytesOfBits bits = [] := by
  rw [bytesOfBits.eq_def]
  split
  next => simp only [List.length_cons] at short; omega
  next => rfl

/-- R1: bits that begin with those of some bytes make these bytes, then the bytes of the rest. -/
theorem bytesOfBits_append (bytes : List Byte) (tail : List Bool) :
    bytesOfBits (bytes.flatMap msbFirst ++ tail) = bytes ++ bytesOfBits tail := by
  induction bytes with
  | nil => rfl
  | cons b bytes ih =>
    calc bytesOfBits ((b :: bytes).flatMap msbFirst ++ tail)
      _ = packBits (msbFirst b) :: bytesOfBits (bytes.flatMap msbFirst ++ tail) := rfl
      _ = b :: bytes ++ bytesOfBits tail := by rw [packBits_msbFirst, ih]; rfl

/-- R1: clocks while nCS is high carry nothing, before the falling edge and after the rising edge. -/
theorem sampled_between {idle after : List SpiClock} (bits : List Bool) (fresh : Bool) (pins : InPins)
    (before : ∀ c ∈ idle, c.nCs = true) (behind : ∀ c ∈ after, c.nCs = true) :
    sampled { clocks := idle ++ bits.map (fun b => { nCs := false, mosi := b }) ++ after, fresh := fresh, pins := pins } =
      bits := by
  have ended : (after.takeWhile fun c => !c.nCs) = [] := by
    cases after with
    | nil => rfl
    | cons c l => simp [behind c]
  rw [sampled, List.append_assoc, List.dropWhile_append_of_pos before]
  cases bits with
  | nil => rw [List.map_nil, List.nil_append, List.dropWhile_eq_nil_iff.2 behind]; rfl
  | cons b bits =>
    have low : ∀ c ∈ (b :: bits).map fun b => ({ nCs := false, mosi := b } : SpiClock), (!c.nCs) = true :=
      List.forall_mem_map.2 fun _ _ => rfl
    rw [List.map_cons, List.cons_append, List.dropWhile_cons_of_neg Bool.false_ne_true, ← List.cons_append, ← List.map_cons,
      List.takeWhile_append_of_pos low, ended, List.append_nil, List.map_map]
    exact List.map_id _

/-- R1: a transaction of some bytes and further bits carries them. -/
theorem sampled_sent (bytes : List Byte) (tail : List Bool) (fresh : Bool) (pins : InPins) :
    sampled (sent bytes tail fresh pins) = bytes.flatMap msbFirst ++ tail := by
  have h := sampled_between (idle := []) (after := []) (bytes.flatMap msbFirst ++ tail) fresh pins nofun nofun
  rw [List.nil_append, List.append_nil] at h
  exact h

/-! ## The CRC-8 (R7) -/

theorem crc8_append (l m : List Byte) : crc8 (l ++ m) = m.foldl crc8Byte (crc8 l) := List.foldl_append ..

/-- R7: one shift of the CRC-8 can be undone. -/
theorem crc8Shift_injective : Function.Injective crc8Shift := by
  have undone : ∀ x : Byte,
      (if (crc8Shift x).getLsbD 0 then (crc8Shift x ^^^ 0x07) >>> 1 ||| 0x80 else crc8Shift x >>> 1) = x := by
    decide
  intro x y same
  rw [← undone x, same, undone y]

/-- R7: the eight shifts of a byte can be undone. -/
theorem crc8Byte_eq_iff {a b c d : Byte} : crc8Byte a b = crc8Byte c d ↔ a ^^^ b = c ^^^ d := by
  have shifts (n : Nat) : Function.Injective (Nat.repeat crc8Shift n) := by
    induction n with
    | zero => exact fun _ _ same => same
    | succ n ih => exact crc8Shift_injective.comp ih
  exact (shifts 8).eq_iff

/-- R7: runs of bytes that end alike have the same CRC-8 only if what comes before does. -/
theorem foldl_crc8Byte_injective (l : List Byte) : Function.Injective fun acc => l.foldl crc8Byte acc := by
  induction l with
  | nil => exact fun _ _ same => same
  | cons b l ih => exact fun x y same => (BitVec.xor_left_inj _).1 (crc8Byte_eq_iff.1 (ih same))

/-- R7: the CRC-8 of a run of bytes and its check byte is 00h, and with any other check byte it is not. -/
theorem crc8_check_iff (body : List Byte) (c : Byte) : crc8 (body ++ [c]) = 0 ↔ crc8 body = c := by
  have zero : crc8Byte 0 0 = 0 := by decide
  calc crc8 (body ++ [c]) = 0
    _ ↔ crc8Byte (crc8 body) c = crc8Byte 0 0 := by rw [crc8_append, zero]; rfl
    _ ↔ crc8 body ^^^ c = 0 := by rw [crc8Byte_eq_iff]; rfl
    _ ↔ crc8 body = c := BitVec.xor_eq_zero_iff

/-- R7: one changed byte changes the CRC-8. -/
theorem crc8_set_ne {l : List Byte} {i : Nat} {x : Byte} (within : i < l.length) (other : x ≠ byteAt l i) :
    crc8 (l.set i x) ≠ crc8 l := by
  have parted : crc8 l = (l.drop (i + 1)).foldl crc8Byte (crc8Byte (crc8 (l.take i)) (byteAt l i)) := by
    conv_lhs => rw [← List.take_append_drop i l, List.drop_eq_getElem_cons within, crc8_append]
    rw [byteAt, List.getD_eq_getElem _ _ within]
    rfl
  rw [parted, List.set_eq_take_append_cons_drop, if_pos within, crc8_append]
  intro same
  exact other ((BitVec.xor_right_inj _).1 (crc8Byte_eq_iff.1 (foldl_crc8Byte_injective _ same)))

/-- R5: a frame is intact if the CRC-8 over all of it is 00h. -/
theorem checkOk_iff {frame : List Byte} (nonempty : frame ≠ []) : checkOk frame = true ↔ crc8 frame = 0 := by
  have whole : crc8 frame = 0 ↔ crc8 frame.dropLast = frame.getLast nonempty := by
    conv_lhs => rw [← List.dropLast_append_getLast nonempty]
    exact crc8_check_iff _ _
  rw [checkOk, beq_iff_eq, whole, List.getLastD_eq_getLast?, List.getLast?_eq_some_getLast nonempty]
  rfl

/-! ## Frames (R2, R5, R8 to R10) -/

theorem frameLength_eq (b : Byte) : frameLength b = clippedLength b := by
  unfold frameLength clippedLength
  split
  next => omega
  next => split <;> omega

/-- R2, R5: what the port finds in a whole frame of a length in range, whatever fill follows it. -/
theorem classify_frame {frame : List Byte} (least : 4 ≤ frame.length) (most : frame.length ≤ 28)
    (length : byteAt frame 0 = byteN frame.length) (fill : List Byte) :
    classify (frame ++ fill) =
      if checkOk frame then .intact (byteAt frame 1) (byteAt frame 2) (frameParams frame)
      else .checkFailed (byteAt frame 1) := by
  obtain ⟨b, rest, rfl⟩ : ∃ b rest, frame = b :: rest := List.exists_cons_of_ne_nil (by rintro rfl; simp at least)
  have number : b.toNat = (b :: rest).length := by
    exact (congrArg BitVec.toNat length).trans ((BitVec.toNat_ofNat _ _).trans (Nat.mod_eq_of_lt (by omega)))
  have clipped : frameLength b = (b :: rest).length := by
    rw [frameLength, if_neg (by omega), if_neg (by omega), number]
  have complete : ¬(b :: rest ++ fill).length < (b :: rest).length := by rw [List.length_append]; omega
  rw [List.cons_append, classify, ← List.cons_append, clipped, if_neg complete, List.take_left' rfl,
    if_neg (show ¬(b.toNat < 4 ∨ 28 < b.toNat) by omega)]

theorem encodeFrame_length (seq code : Byte) (params : List Byte) :
    (encodeFrame seq code params).length = params.length + 4 := by
  simp [encodeFrame]

/-- R7: the CRC-8 over a whole intact frame is 00h. -/
theorem crc8_encodeFrame (seq code : Byte) (params : List Byte) : crc8 (encodeFrame seq code params) = 0 :=
  (crc8_check_iff _ _).2 rfl

/-- R5: the bytes of an intact frame are read back. -/
theorem classify_encodeFrame (seq code : Byte) {params : List Byte} (fill : List Byte) (fits : params.length ≤ 24) :
    classify (encodeFrame seq code params ++ fill) = .intact seq code params := by
  have length := encodeFrame_length seq code params
  have intact : checkOk (encodeFrame seq code params) = true :=
    (checkOk_iff (List.cons_ne_nil _ _)).2 (crc8_encodeFrame seq code params)
  have read : frameParams (encodeFrame seq code params) = params := List.dropLast_concat
  rw [classify_frame (by omega) (by omega) (by rw [length]; rfl), if_pos intact, read]
  rfl

/-- Settles O4: with one byte changed, the CRC-8 over the frame is no longer 00h. -/
theorem damageToOneByteIsCaught : Obligations.DamageToOneByteIsCaught := by
  unfold Obligations.DamageToOneByteIsCaught
  intro seq code params fill fits
  refine ⟨crc8_encodeFrame seq code params, fun i x first within other => ?_⟩
  have length := encodeFrame_length seq code params
  have damaged : ¬checkOk ((encodeFrame seq code params).set i x) = true := by
    rw [checkOk_iff (by rw [← List.length_pos_iff, List.length_set]; omega), ← crc8_encodeFrame seq code params]
    exact crc8_set_ne (by omega) other
  have kept : byteAt ((encodeFrame seq code params).set i x) 0 = byteN (params.length + 4) := by
    obtain ⟨j, rfl⟩ : ∃ j, i = j + 1 := ⟨i - 1, by omega⟩
    rfl
  have second : byteAt ((encodeFrame seq code params).set i x ++ fill) 1 = byteAt ((encodeFrame seq code params).set i x) 1 :=
    List.getD_append _ _ _ _ (by rw [List.length_set]; omega)
  dsimp only
  rw [classify_frame (by rw [List.length_set]; omega) (by rw [List.length_set]; omega)
    (by rw [List.length_set, length]; exact kept), if_neg damaged, second]

/-! ## The catalogue (R24) -/

/-- R12, R24: the row of a code of the catalogue is one transaction with a frame of that code. -/
theorem exec_catalogue : ∀ row ∈ catalogue, ∀ (f : Frame) (s : State),
    exec (row.2 f) s = .next (serveCommand (commandFor row.1) f s) := by
  simp only [catalogue, List.flatten_cons, List.flatten_nil, List.append_nil, List.forall_mem_append, sysRows, timeRows, cueRows,
    chanRows, edgeRows, noteRows, wardRows, standRows, storeRows, List.forall_mem_cons, List.not_mem_nil, false_imp_iff,
    implies_true, and_true]
  and_intros <;> exact fun _ _ => rfl

/-- R1, R12: the port goes by the bits of a transaction: those of a whole frame are that frame. -/
theorem transact_frame {code seq : Byte} {params : List Byte} (tail : List Bool) (fresh : Bool) (pins : InPins)
    (fits : params.length ≤ 24) (s : State) :
    transact evaluate (sent (encodeFrame seq code params) tail fresh pins) s =
      serveCommand (commandFor code) { seq := seq, params := params, fill := tail.length, fresh := fresh, pins := pins } s := by
  have length := encodeFrame_length seq code params
  have clocks : (sampled (sent (encodeFrame seq code params) tail fresh pins)).length =
      8 * (params.length + 4) + tail.length := by
    rw [sampled_sent, List.length_append, bits_length, length]
  have served : evaluate (sampled (sent (encodeFrame seq code params) tail fresh pins)) =
      serveIntact (commandFor code) ⟨params.length + 4, 8 * (params.length + 4) + tail.length⟩ seq params := by
    funext u
    have first : (byteAt (encodeFrame seq code params ++ bytesOfBits tail) 0).toNat = params.length + 4 :=
      (BitVec.toNat_ofNat _ _).trans (Nat.mod_eq_of_lt (by omega))
    have span : frameLength (byteAt (encodeFrame seq code params ++ bytesOfBits tail) 0) = params.length + 4 := by
      rw [frameLength, if_neg (by omega), if_neg (by omega), first]
    rw [← clocks]
    simp only [evaluate, sampled_sent, bytesOfBits_append, classify_encodeFrame seq code _ fits, bitSpan, span]
  rw [transact, clocks, served]
  rfl

/-- Settles O3: bits to bytes, frames, the catalogue, and REPLAY's row through `transact_frame`. -/
theorem framesDecodeToTheirCommands : Obligations.FramesDecodeToTheirCommands := by
  unfold Obligations.FramesDecodeToTheirCommands
  refine ⟨fun bytes tail fresh pins idle after incomplete before behind => ?_,
    fun seq code params fill fits => classify_encodeFrame seq code fill fits, rfl,
    fun row known f tail s fits fill => ?_, fun n => Nat.mod_lt _ (by decide)⟩
  · have carried :
        sampled { clocks := idle ++ (sent bytes tail fresh pins).clocks ++ after, fresh := fresh, pins := pins } = _ :=
      sampled_between (bytes.flatMap msbFirst ++ tail) fresh pins before behind
    refine ⟨?_, carried⟩
    rw [received, carried, bytesOfBits_append, bytesOfBits_incomplete incomplete, List.append_nil]
  · rw [exec_catalogue row known]
    refine congrArg Host.Outcome.next ((transact_frame tail f.fresh f.pins fits s).trans ?_)
    rw [← fill]

end Sys2Proof.ThePort
end

section
/-! PROOFS. How a transaction is served, answered, refused or ignored. -/

open Sys2Proof Sys2Proof.Machine

namespace Sys2Proof.ThePort

/-! ## Responses (R3, R12, R18) -/

/-- R3, R18: a response, in the words of the statements. -/
theorem respond_eq {pins : InPins} {u : State} (inputs : u.pins.inputs = pins) (x : Span) (seq : Byte) (st : Status)
    (payload : List Byte) (replayed : Bool) :
    respond x seq st payload replayed u = answered x.frameLen x.clocks pins seq st payload replayed u := by
  simp only [respond, answered, misoBits_eq, misoBytes_eq, inputs, misoZeros]

/-- R2: a command that leaves no soft reset pending ends with none. -/
theorem softAtOnce_quiet {u : State} (quiet : u.sys.softPending = false) : softAtOnce u = u := by
  simp [softAtOnce, nCsRises, quiet]

/-- R2, R12, R13, R18, R19: the end of an evaluated command, in the words of the statements. -/
theorem finish_eq {opens : Option WindowKind} {pins : InPins} {r : Reply} (inputs : r.state.pins.inputs = pins) (x : Span)
    (seq : Byte) :
    finish opens x seq r =
      softAtOnce (concludedAfter x.frameLen x.clocks pins seq
        (if r.status = .ok then opens.map fun k => { kind := k, remaining := 10 } else none) r.status r.payload r.state) :=
  congrArg softAtOnce (respond_eq (u := (settle r.state).setPort _) inputs x seq r.status r.payload false)

/-- R17: the end of an evaluated command that failed. -/
theorem finish_fail {opens : Option WindowKind} {pins : InPins} {st : Status} {u : State} (failed : st ≠ .ok)
    (inputs : u.pins.inputs = pins) (quiet : u.sys.softPending = false) (x : Span) (seq : Byte) :
    finish opens x seq (fail st u) = concludedAfter x.frameLen x.clocks pins seq none st [] u := by
  rw [finish_eq (r := fail st u) inputs, softAtOnce_quiet]
  · exact congrArg (concludedAfter _ _ _ _ · _ _ _) (if_neg failed)
  · exact quiet

/-- R8: an aborted frame, in the words of the statements. -/
theorem abortFrame_eq (clocks : Nat) (u : State) :
    abortFrame clocks u =
      unanswered clocks (u.setPort { u.port with window := none, errors := countedOnce u.port.errors }) := by
  rw [← TimebaseAndTicks.satInc_eq_countedOnce]
  rfl

/-! ## The frame outcomes (R8 to R12) -/

theorem transact_serving {serve : List Bool → State → State} {t : Transaction} {s : State} (serving : Serving s) :
    transact serve t s = serve (sampled t) (met t.pins s) := whenReady_serving _ _ _ _ _ serving

/-- R8: fewer bytes than the length byte selects. -/
theorem classify_aborted {b : Byte} {rest : List Byte} (short : (b :: rest).length < clippedLength b) :
    classify (b :: rest) = .aborted := by
  rw [classify, frameLength_eq, if_pos short]

/-- R9: a complete frame with a length byte out of range. -/
theorem classify_lengthOut {b : Byte} {rest : List Byte} (out : b.toNat < 4 ∨ 28 < b.toNat)
    (complete : clippedLength b ≤ (b :: rest).length) : classify (b :: rest) = .lengthOut (byteAt (b :: rest) 1) := by
  have second : byteAt ((b :: rest).take (clippedLength b)) 1 = byteAt (b :: rest) 1 := by
    have : 1 < clippedLength b := by unfold clippedLength; omega
    rw [byteAt, byteAt, List.getD_eq_getElem?_getD, List.getD_eq_getElem?_getD, List.getElem?_take_of_lt this]
  rw [classify, frameLength_eq, if_neg (by omega), if_pos out, second]

/-- R10: a complete frame with a wrong check byte. -/
theorem classify_checkFailed {b : Byte} {rest : List Byte} (least : 4 ≤ b.toNat) (most : b.toNat ≤ 28)
    (complete : b.toNat ≤ (b :: rest).length)
    (wrong : byteAt (b :: rest) (b.toNat - 1) ≠ crc8 ((b :: rest).take (b.toNat - 1))) :
    classify (b :: rest) = .checkFailed (byteAt (b :: rest) 1) := by
  have clipped : frameLength b = b.toNat := by rw [frameLength, if_neg (by omega), if_neg (by omega)]
  have read (i : Nat) (hi : i < b.toNat) : byteAt ((b :: rest).take b.toNat) i = byteAt (b :: rest) i := by
    rw [byteAt, byteAt, List.getD_eq_getElem?_getD, List.getD_eq_getElem?_getD, List.getElem?_take_of_lt hi]
  have bad : ¬checkOk ((b :: rest).take b.toNat) = true := by
    have last : ((b :: rest).take b.toNat).getLastD 0 = byteAt (b :: rest) (b.toNat - 1) := by
      rw [← read _ (by omega), List.getLastD_eq_getLast?, List.getLast?_eq_getElem?, List.length_take_of_le complete]
      rfl
    rw [checkOk, beq_iff_eq, last, List.dropLast_eq_take, List.length_take_of_le complete, List.take_take,
      Nat.min_eq_left (Nat.sub_le _ _)]
    exact fun same => wrong same.symm
  rw [classify, clipped, if_neg (by omega), if_neg (by omega), if_neg bad, read 1 (by omega)]

/-- Settles O5, by the class of the bytes received. -/
theorem abortedAndRefusedTransactionsAreCounted : Obligations.AbortedAndRefusedTransactionsAreCounted := by
  unfold Obligations.AbortedAndRefusedTransactionsAreCounted
  intro t s serving
  have evaluated : exec (.frameAborted t) s = .next (evaluate (sampled t) (met t.pins s)) :=
    congrArg Host.Outcome.next (transact_serving serving)
  have refused : exec (.refusedTransaction t) s = .next (refuse (sampled t) (met t.pins s)) :=
    congrArg Host.Outcome.next (transact_serving serving)
  refine ⟨fun b rest bytes short => ?_, fun carries => ?_, fun nothing => ⟨?_, ?_⟩⟩
  · have aborted : classify (bytesOfBits (sampled t)) = .aborted :=
      (congrArg classify bytes).trans (classify_aborted (bytes ▸ short))
    rw [evaluated, evaluate, aborted]
    exact congrArg Host.Outcome.next (abortFrame_eq _ _)
  · exact refused.trans (congrArg Host.Outcome.next ((if_neg carries).trans (abortFrame_eq _ _)))
  · have empty : classify (bytesOfBits (sampled t)) = .empty := congrArg classify nothing
    rw [evaluated, evaluate, empty]
  · exact refused.trans (congrArg Host.Outcome.next (if_pos nothing))

/-- Settles O6: the bytes are classed as of a length out of range, and the refusal is not executed. -/
theorem lengthOutOfRangeIsAnsweredFormat : Obligations.LengthOutOfRangeIsAnsweredFormat := by
  unfold Obligations.LengthOutOfRangeIsAnsweredFormat
  intro t s b rest serving bytes out complete
  have ⟨_, quiet, _⟩ := serving
  have evaluated : exec (.lengthOutOfRange t) s = .next (evaluate (sampled t) (met t.pins s)) :=
    congrArg Host.Outcome.next (transact_serving serving)
  have outcome : classify (bytesOfBits (sampled t)) = .lengthOut (byteAt (received t) 1) := by
    rw [show bytesOfBits (sampled t) = b :: rest from bytes, bytes]
    exact classify_lengthOut out (bytes ▸ complete)
  have span : bitSpan (sampled t) (byteAt (bytesOfBits (sampled t)) 0) = ⟨clippedLength b, (sampled t).length⟩ := by
    rw [show bytesOfBits (sampled t) = b :: rest from bytes, bitSpan, frameLength_eq]
    rfl
  rw [evaluated, evaluate, outcome, span]
  exact congrArg Host.Outcome.next (finish_fail (st := .format) (u := met t.pins s) nofun rfl quiet _ _)

/-- Settles O7: the bytes are classed as of a failed check. -/
theorem wrongCheckByteIsAnsweredCheck : Obligations.WrongCheckByteIsAnsweredCheck := by
  unfold Obligations.WrongCheckByteIsAnsweredCheck
  intro t s b rest serving bytes least most complete wrong
  have evaluated : exec (.checkFailed t) s = .next (evaluate (sampled t) (met t.pins s)) :=
    congrArg Host.Outcome.next (transact_serving serving)
  have outcome : classify (bytesOfBits (sampled t)) = .checkFailed (byteAt (received t) 1) := by
    rw [bytes] at complete wrong
    rw [show bytesOfBits (sampled t) = b :: rest from bytes, bytes]
    exact classify_checkFailed least most complete wrong
  have span : bitSpan (sampled t) (byteAt (bytesOfBits (sampled t)) 0) = ⟨b.toNat, (sampled t).length⟩ := by
    rw [show bytesOfBits (sampled t) = b :: rest from bytes, bitSpan, show byteAt (b :: rest) 0 = b from rfl, frameLength,
      if_neg (by omega), if_neg (by omega)]
  rw [evaluated, evaluate, outcome, span]
  refine congrArg Host.Outcome.next ((respond_eq (pins := t.pins) rfl _ _ _ _ _).trans ?_)
  rw [← TimebaseAndTicks.satInc_eq_countedOnce]
  rfl

/-! ## Replays and unknown codes (R11, R12) -/

/-- R11: a replay of any command. -/
theorem serveCommand_replay {cmd : Command} {f : Frame} {s : State} {e : CacheEntry} (serving : Serving s)
    (cached : s.port.cache = some e) (same : f.seq = e.seq) :
    serveCommand cmd f s =
      answered (f.params.length + 4) (frameClocks f) f.pins e.seq e.status e.payload true (met f.pins s) := by
  have entry : (met f.pins s).port.cache = some e := cached
  have isReplay : isReplay f.seq (met f.pins s) = true := by rw [isReplay, entry, same]; exact beq_self_eq_true _
  rw [serveCommand, whenReady_serving _ _ _ _ _ serving, serveIntact, if_pos isReplay, replay, entry]
  exact respond_eq rfl _ _ _ _ _

/-- Settles O8: the rows of the catalogue, and the row REPLAY through `transact_frame`. -/
theorem replayIsAnsweredFromTheCache : Obligations.ReplayIsAnsweredFromTheCache := by
  unfold Obligations.ReplayIsAnsweredFromTheCache
  refine ⟨fun s e serving cached => ⟨fun row known f same => ?_, fun code params tail fresh pins fits => ?_⟩,
    fun seq s empty => ?_⟩
  · rw [exec_catalogue row known, serveCommand_replay serving cached same]
  · exact congrArg Host.Outcome.next ((transact_frame tail fresh pins fits s).trans (serveCommand_replay serving cached rfl))
  · rw [isReplay, empty]
    rfl

/-- R24: a code outside Table 1-5 has no command. -/
theorem commandFor_unknown {code : Byte} (unknown : code ∉ knownCodes) : commandFor code = unknownCode := by
  have none : ∀ code : Byte, code ∉ knownCodes → (commandOf code).isNone = true := by decide
  rw [commandFor, Option.isNone_iff_eq_none.1 (none code unknown)]
  rfl

/-- Settles O9: the frame is executed, and its code has no command. -/
theorem unknownCodeIsAnsweredFormat : Obligations.UnknownCodeIsAnsweredFormat := by
  unfold Obligations.UnknownCodeIsAnsweredFormat
  intro seq code params tail fresh pins s serving new fits unknown
  have executed : isReplay seq (met pins s) = false := new
  have ⟨_, quiet, _⟩ := serving
  refine congrArg Host.Outcome.next ((transact_frame tail fresh pins fits s).trans ?_)
  rw [commandFor_unknown unknown, serveCommand, whenReady_serving _ _ _ _ _ serving, serveIntact, executed]
  exact finish_fail (st := .format) (u := met pins s) nofun rfl quiet _ _

/-! ## What is not served (R22, R198) -/

/-- The rows of a transaction: one transaction, evaluated or refused. -/
theorem exec_transactionRows (t : Transaction) :
    ∀ c ∈ transactionRows t, ∃ serve, ∀ s, exec c s = .next (transact serve t s) := by
  simp only [transactionRows, List.forall_mem_cons, List.not_mem_nil, false_imp_iff, implies_true, and_true]
  exact ⟨⟨evaluate, fun _ => rfl⟩, ⟨refuse, fun _ => rfl⟩, ⟨evaluate, fun _ => rfl⟩, ⟨evaluate, fun _ => rfl⟩,
    ⟨evaluate, fun _ => rfl⟩, ⟨evaluate, fun _ => rfl⟩⟩

section
variable {clocks : Nat} {fresh : Bool} {pins : InPins} {serve : State → State} {s : State}

/-- R22: until the port is ready a transaction is not answered. -/
theorem whenReady_early (early : s.sys.phase ≠ .ready) (quiet : s.sys.softPending = false) :
    whenReady clocks fresh pins serve s = unanswered clocks (met pins s) := by
  rw [whenReady_cases _ _ _ _ _ quiet, if_neg fun h => early h.1]
  rfl

/-- R22: the transaction that was in progress when the port became ready is not answered; the next is served. -/
theorem whenReady_ignoring (ready : s.sys.phase = .ready) (quiet : s.sys.softPending = false)
    (ignoring : s.port.ignoring = true) :
    whenReady clocks fresh pins serve s =
      if fresh = true then whenReady clocks fresh pins serve (s.setPort { s.port with ignoring := false })
      else unanswered clocks (met pins s) := by
  rw [whenReady_cases _ _ _ _ _ quiet]
  split
  next taken =>
    have served : Serving (s.setPort { s.port with ignoring := false }) := ⟨ready, quiet, rfl⟩
    rw [if_pos (taken.2 ignoring), whenReady_serving _ _ _ _ _ served]
    rfl
  next ignored =>
    rw [if_neg fun new => ignored ⟨ready, fun _ => new⟩]
    rfl

/-- R198: a soft reset that waits takes effect before the transaction, which is not answered. -/
theorem whenReady_pending (pending : s.sys.softPending = true) :
    whenReady clocks fresh pins serve s = unanswered clocks (met pins (takeReset .soft s)) := by
  rw [whenReady, nCsRises, if_pos pending]
  exact congrArg (noResponse clocks) (meetInputs_eq pins (takeReset .soft s))

end

/-- R22: no step of a tick or of a warden-millisecond event takes place until the port is ready. -/
theorem occur_early {s : State} (early : s.sys.phase ≠ .ready) (due : Bool) (effect : State → State) :
    occur due effect s = s := by
  rw [TheWarden.occur_eq (cond := due = true) Iff.rfl, if_neg fun h => early h.1]

/-- Settles O10: the port not ready, the port ignoring a transaction, and a soft reset that waits. -/
theorem nothingIsServedBeforeThePortIsReady : Obligations.NothingIsServedBeforeThePortIsReady := by
  unfold Obligations.NothingIsServedBeforeThePortIsReady
  refine ⟨fun s early quiet => ?_, fun s ready quiet ignoring => ⟨fun row known f => ?_, fun t c row => ?_⟩,
    fun s pending => ⟨fun row known f => ?_, fun t c row => ?_⟩⟩
  · have rests (due : Bool) (effect : State → State) :
        (Host.Outcome.next (occur due effect s) : Host.Outcome State Fault Refusal) = .next s :=
      congrArg Host.Outcome.next (occur_early early due effect)
    refine ⟨fun row known f => ?_, fun t c row => ?_, fun pins => ?_, ?_, fun line => rests _ _, fun slot => ?_,
      fun takes => ?_⟩
    · rw [exec_catalogue row known]
      exact congrArg Host.Outcome.next (whenReady_early early quiet)
    · obtain ⟨serve, meaning⟩ := exec_transactionRows t c row
      rw [meaning]
      exact congrArg Host.Outcome.next (whenReady_early early quiet)
    · refine congrArg Host.Outcome.next ((congrArg tick (meetPins_eq pins s quiet)).trans ?_)
      rw [TimebaseAndTicks.tick_eq, if_neg fun h => early h.1]
    all_goals
      simp only [List.forall_mem_cons, List.not_mem_nil, false_imp_iff, implies_true, and_true]
      and_intros <;> exact rests _ _
  · rw [exec_catalogue row known, exec_catalogue row known, ← apply_ite Host.Outcome.next]
    exact congrArg Host.Outcome.next (whenReady_ignoring ready quiet ignoring)
  · obtain ⟨serve, meaning⟩ := exec_transactionRows t c row
    rw [meaning, meaning, ← apply_ite Host.Outcome.next]
    exact congrArg Host.Outcome.next (whenReady_ignoring ready quiet ignoring)
  · rw [exec_catalogue row known]
    exact congrArg Host.Outcome.next (whenReady_pending pending)
  · obtain ⟨serve, meaning⟩ := exec_transactionRows t c row
    rw [meaning]
    exact congrArg Host.Outcome.next (whenReady_pending pending)

end Sys2Proof.ThePort
end

section
/-! PROOFS. What an executed command leaves: the cache, the window, the failures that change nothing, and the soft reset. -/

open Sys2Proof Sys2Proof.Machine
open Sys2Proof.SoundStates (commandFor_answered)
open Sys2Proof.TheWarden (serveCommand_refuses_if serveCommand_opened)

namespace Sys2Proof.ThePort

/-! ## The end of an executed command (R12, R13, R19) -/

section
variable {cmd : Command} {f : Frame} {s : State}

/-- R12: a served command is executed on the state that its frame met. -/
theorem serveCommand_finish (served : Served f s) :
    serveCommand cmd f s = finish cmd.opens (frameSpan f) f.seq (cmd.body f.params (met f.pins s)) := by
  obtain ⟨serving, new⟩ := served
  have executed : isReplay f.seq (met f.pins s) = false := new
  rw [serveCommand, whenReady_serving _ _ _ _ _ serving, serveIntact, executed]
  rfl

/-- R13, R19: unless a soft reset takes effect at once, an executed command leaves its reply in the cache, and the window of a
successful request or none. -/
theorem serveCommand_leaves (served : Served f s) :
    let r := cmd.body f.params (met f.pins s)
    let t := serveCommand cmd f s
    t.sys.phase = .inReset ∧ t.port.cache = none ∨
      t.port.cache = some { seq := f.seq, status := r.status, payload := r.payload } ∧
        t.port.window = if r.status = .ok then cmd.opens.map fun k => { kind := k, remaining := 10 } else none := by
  intro r t
  have ended : t = softAtOnce (respond (frameSpan f) f.seq r.status r.payload false
      ((settle r.state).setPort (portAfter cmd.opens f.seq r (settle r.state).port))) := serveCommand_finish served
  rw [ended, softAtOnce]
  split
  next =>
    rw [nCsRises]
    split
    next => exact .inl ⟨rfl, rfl⟩
    next => exact .inr ⟨rfl, rfl⟩
  next => exact .inr ⟨rfl, rfl⟩

/-- R17: an executed command that fails and changes nothing. -/
theorem serveCommand_unchanged (served : Served f s) (failed : (cmd.body f.params (met f.pins s)).status ≠ .ok)
    (unchanged : (cmd.body f.params (met f.pins s)).state = met f.pins s) :
    serveCommand cmd f s = concluded f none (cmd.body f.params (met f.pins s)).status
      (cmd.body f.params (met f.pins s)).payload (met f.pins s) := by
  have quiet := TimebaseAndTicks.served_softPending served
  rw [serveCommand_served _ f s served (by rw [unchanged]; exact quiet) (by rw [unchanged]; rfl)]
  simp only [unchanged, if_neg failed]

end

/-! ## Failures (R17) -/

theorem pins_ext {p q : Pins} (inputs : p.inputs = q.inputs) (out : p.out = q.out) (nAttn : p.nAttn = q.nAttn)
    (nHrst : p.nHrst = q.nHrst) (miso : p.miso = q.miso) : p = q := by
  cases p
  cases q
  simp_all only

/-- R46, R139, R150: the state determines the output pins. -/
theorem pins_of_shown {s t : State} (shown : PinsShown s) (same : PinsShown t) (inputs : t.pins.inputs = s.pins.inputs)
    (phase : t.sys.phase = s.sys.phase) (chans : t.chans = s.chans) (notes : t.notes = s.notes) (ward : t.ward = s.ward) :
    t.pins = s.pins := by
  obtain ⟨held, driven, attn, hrst, miso⟩ := shown
  obtain ⟨held', driven', attn', hrst', miso'⟩ := same
  have holds : OutputsHeld t ↔ OutputsHeld s := by
    rw [← TimebaseAndTicks.outputsHeld_iff, ← TimebaseAndTicks.outputsHeld_iff, phase]
  have outs : t.pins.out = s.pins.out := by
    refine Vector.ext fun i hi => ?_
    by_cases h : OutputsHeld s
    · exact (held' (holds.2 h) ⟨i, hi⟩).trans (held h ⟨i, hi⟩).symm
    · refine (driven' (mt holds.1 h) ⟨i, hi⟩).trans (Eq.trans ?_ (driven h ⟨i, hi⟩).symm)
      rw [chans]
  have attns : t.pins.nAttn = s.pins.nAttn :=
    Bool.eq_iff_iff.2 (not_iff_not.1 (by simp only [Bool.not_eq_true, attn', attn, phase, notes]))
  have hrsts : t.pins.nHrst = s.pins.nHrst :=
    Bool.eq_iff_iff.2 (not_iff_not.1 (by simp only [Bool.not_eq_true, hrst', hrst, ward]))
  rw [← inputs] at miso
  exact pins_ext inputs outs attns hrsts (miso'.trans miso.symm)

/-- R36: the end of an event in which nothing changed leaves the part as it is. -/
theorem settle_unchanged {s : State} (shown : PinsShown s) (none : s.notes.raised = []) : settle s = s := by
  have notes : (settle s).notes = s.notes := NoticeUnit.enterAll_of_none _ none
  obtain ⟨-, -, -, -, miso⟩ := id shown
  have pins : (settle s).pins = s.pins :=
    pins_of_shown shown (TimebaseAndTicks.pinsShown_settle s miso) rfl rfl rfl notes rfl
  calc settle s
    _ = (s.setNotes (settle s).notes).setPins (settle s).pins := rfl
    _ = s := by rw [notes, pins]; rfl

/-- R1: the pins are still shown when an event has brought its input pins. -/
theorem pinsShown_met {s : State} (pins : InPins) (shown : PinsShown s) : PinsShown (met pins s) := by
  obtain ⟨held, driven, attn, hrst, -⟩ := shown
  exact ⟨held, driven, attn, hrst, rfl⟩

/-- Settles O11: what the block refuses it leaves unchanged, and then the end of the event changes nothing. -/
theorem failedCommandsChangeNothing : Obligations.FailedCommandsChangeNothing := by
  unfold Obligations.FailedCommandsChangeNothing
  intro row known f s t e served shown none run cached failed
  rw [exec_catalogue row known] at run
  obtain rfl := Host.Outcome.next.inj run
  have answers := commandFor_answered (s := met f.pins s) (params := f.params) row.1
  rcases serveCommand_leaves served with ⟨-, lost⟩ | ⟨held, -⟩
  · rw [lost] at cached
    cases cached
  · obtain rfl := Option.some.inj (held.symm.trans cached)
    refine ⟨answers.beat, fun other => ?_⟩
    obtain ⟨empty, same⟩ := answers.failed failed
    have unsettled : settle (met f.pins s) = met f.pins s := settle_unchanged (pinsShown_met f.pins shown) none
    rw [serveCommand_unchanged served failed (same other), concluded, concludedAfter, unsettled]
    exact ⟨⟨rfl, rfl, rfl, rfl, rfl, rfl, rfl, rfl, rfl, rfl⟩, rfl, rfl, rfl, rfl, empty⟩

/-! ## Requests and completions (R19 to R21) -/

/-- R21: what a completion answers while no window of its kind is open. -/
def MissesItsWindow (r : Reply) : Prop := r.status = .format ∨ r.status = .param ∨ r.status = .sequence

section
variable {s : State} {params : List Byte}

theorem sysResetConfirm_missesItsWindow (shut : windowOpen .reset s = false) :
    MissesItsWindow (cmdSysResetConfirm params s) := by
  cases params with
  | nil => rw [cmdSysResetConfirm, shut]; exact .inr (.inr rfl)
  | cons _ _ => exact .inl rfl

theorem wardDisarmConfirm_missesItsWindow (shut : windowOpen .disarm s = false) :
    MissesItsWindow (cmdWardDisarmConfirm params s) := by
  cases params with
  | nil => rw [cmdWardDisarmConfirm, shut]; exact .inr (.inr rfl)
  | cons _ _ => exact .inl rfl

theorem standReturnConfirm_missesItsWindow (shut : windowOpen .goBack s = false) :
    MissesItsWindow (cmdStandReturnConfirm params s) := by
  cases params with
  | nil => rw [cmdStandReturnConfirm, shut]; exact .inr (.inr rfl)
  | cons _ _ => exact .inl rfl

theorem storeProgram_missesItsWindow (shut : windowOpen .store s = false) :
    MissesItsWindow (cmdStoreProgram params s) := by
  unfold cmdStoreProgram
  split
  · split
    · rw [shut]; exact .inr (.inr rfl)
    · exact .inr (.inl rfl)
  · exact .inl rfl

theorem storeWipe_missesItsWindow (shut : windowOpen .store s = false) : MissesItsWindow (cmdStoreWipe params s) := by
  cases params with
  | nil => rw [cmdStoreWipe, shut]; exact .inr (.inr rfl)
  | cons _ _ => exact .inl rfl

/-- R21: a completion does not succeed without a window of its kind. -/
theorem commandFor_missesItsWindow {code : Byte} {k : WindowKind} (needs : windowNeededBy code = some k)
    (shut : windowOpen k s = false) : MissesItsWindow ((commandFor code).body params s) := by
  unfold windowNeededBy at needs
  split at needs
  next reset =>
    cases needs
    exact reset ▸ sysResetConfirm_missesItsWindow shut
  next =>
    split at needs
    next disarm =>
      cases needs
      exact disarm ▸ wardDisarmConfirm_missesItsWindow shut
    next =>
      split at needs
      next goBack =>
        cases needs
        exact goBack ▸ standReturnConfirm_missesItsWindow shut
      next =>
        split at needs
        next store =>
          cases needs
          rcases store with program | wipe
          · exact program ▸ storeProgram_missesItsWindow shut
          · exact wipe ▸ storeWipe_missesItsWindow shut
        next => cases needs

end

/-- R19: the window that a command opens, by its code. -/
theorem opens_commandFor {code : Byte} (known : code ∈ knownCodes) : (commandFor code).opens = windowOpenedBy code := by
  revert code
  decide

/-- Settles O12: the reply that the command leaves, its window by its code, and what a completion checks. -/
theorem windowsFollowRequestsAndCompletions : Obligations.WindowsFollowRequestsAndCompletions := by
  unfold Obligations.WindowsFollowRequestsAndCompletions
  intro row known f s t served run ready
  rw [exec_catalogue row known] at run
  obtain rfl := Host.Outcome.next.inj run
  have answers := commandFor_answered (s := met f.pins s) (params := f.params) row.1
  have code : row.1 ∈ knownCodes := List.mem_map_of_mem (f := Prod.fst) known
  rcases serveCommand_leaves served with ⟨resetting, -⟩ | ⟨held, window⟩
  · rw [resetting] at ready
    cases ready
  · refine ⟨_, held, rfl, opens_commandFor code ▸ window, fun k needs other => ?_, answers.sequence⟩
    exact commandFor_missesItsWindow needs (beq_eq_false_iff_ne.2 other)

/-! ## The soft reset (R2, R198) -/

/-- R198: the confirmation, by what its block answers. -/
theorem serveCommand_resets {body : List Byte → State → Reply} {f : Frame} {s : State} (served : Served f s)
    (reply : body f.params (met f.pins s) = done [] ((met f.pins s).setSys { s.sys with softPending := true })) :
    serveCommand (plain body) f s =
      let confirmed := granted f [] ((met f.pins s).setSys { s.sys with softPending := true })
      if f.pins.nCs = true then takeReset .soft confirmed else confirmed := by
  rw [serveCommand_finish served, show (plain body).body f.params (met f.pins s) = _ from reply]
  exact finish_eq (opens := none) (pins := f.pins)
    (r := done [] ((met f.pins s).setSys { s.sys with softPending := true })) rfl (frameSpan f) f.seq

theorem cmdSysResetReq_eq (params : List Byte) (s : State) :
    cmdSysResetReq params s =
      if params ≠ [] then fail .format s else if ¬s.stand.state = .host then fail .state s else done [] s := by
  cases params with
  | nil => exact (ite_not ..).symm
  | cons _ _ => rfl

theorem cmdSysResetConfirm_eq (params : List Byte) (s : State) :
    cmdSysResetConfirm params s =
      if params ≠ [] then fail .format s
      else if s.port.window.map Window.kind ≠ some .reset then fail .sequence s
      else if s.stand.state ≠ .host then fail .state s
      else done [] (s.setSys { s.sys with softPending := true }) := by
  cases params with
  | nil => simp [cmdSysResetConfirm, windowOpen]
  | cons _ _ => rfl

/-- Settles O17: the request and the confirmation, check by check, and the rising edge. -/
theorem softResetWaitsForTheRisingEdge : Obligations.SoftResetWaitsForTheRisingEdge := by
  unfold Obligations.SoftResetWaitsForTheRisingEdge
  refine fun f s => ⟨fun served => ⟨congrArg Host.Outcome.next ?_, congrArg Host.Outcome.next ?_⟩,
    congrArg Host.Outcome.next ?_⟩
  · rw [← ite_not (s.stand.state = .host)]
    exact serveCommand_refuses_if served (cmdSysResetReq_eq f.params (met f.pins s)) nofun fun counted =>
      serveCommand_refuses_if served counted nofun (serveCommand_opened served)
  · exact serveCommand_refuses_if served (cmdSysResetConfirm_eq f.params (met f.pins s)) nofun fun counted =>
      serveCommand_refuses_if served counted nofun fun opened =>
        serveCommand_refuses_if served opened nofun (serveCommand_resets served)
  · show meetPins { s.pins.inputs with nCs := true } s = _
    rw [meetPins, if_pos rfl, nCsRises, meetInputs_eq]
    exact apply_ite ..

end Sys2Proof.ThePort
end

section
/-! PROOFS. The warden-millisecond event, and its steps as events of their own. -/

open Sys2Proof Sys2Proof.Machine Sys2Proof.TheWarden

namespace Sys2Proof.TheWardenMillisecond

/-! ## The counter and the clock monitor (R26 to R28) -/

/-- A counter of 32 bits stops at its greatest value. -/
theorem satInc_eq_min (x : BitVec 32) : satInc x = BitVec.ofNat 32 (min (x.toNat + 1) 4294967295) := by
  have lt := x.isLt
  unfold satInc
  split
  next full => subst full; rfl
  next room =>
    have ne : x.toNat ≠ 4294967295 := fun e => room (BitVec.eq_of_toNat_eq e)
    rw [Nat.min_eq_left (by omega), BitVec.ofNat_add, BitVec.ofNat_toNat, BitVec.setWidth_eq]
    rfl

/-- R26: one warden millisecond, in the words of the statements. -/
theorem countMs_eq (s : State) : countMs s = msCounted 1 s := by
  rw [countMs, satInc_eq_min]
  rfl

theorem substDue_iff (s : State) : substDue s = true ↔ ReferenceLost s := by
  simp only [substDue, Bool.and_eq_true, beq_iff_eq, Bool.not_eq_true', decide_eq_true_eq, and_assoc]

theorem clockStep_eq (edge : Bool) (s : State) : clockStep edge (countMs s) = monitored edge s := by
  rw [countMs_eq]
  exact if_congr (substDue_iff _) rfl rfl

/-! ## nFSAFE (R153) -/

/-- R153: the duration that a sample leaves. -/
theorem countFsafe_eq (s : State) :
    countFsafe s = s.setWard { s.ward with
      fsafeDur := if s.ward.fsafeAsserted = true then countedOnce s.ward.fsafeDur else s.ward.fsafeDur } := by
  unfold countFsafe
  split
  next => rw [TimebaseAndTicks.satInc_eq_countedOnce]
  next => rfl

theorem fsafeStep_eq (s : State) : fsafeStep s = fsafeSampled s := by
  unfold fsafeStep fsafeSampled
  rw [countFsafe_eq]
  dsimp only
  by_cases enabled : s.ward.fsafeEnable = true
  · rw [enabled]
    by_cases opposing : s.pins.inputs.nFsafe = s.ward.fsafeAsserted
    · by_cases few : s.ward.fsafeRun < 2
      · simp [fsafeAssertDue, fsafeClearDue, fsafeOpposing, opposing, few, Nat.not_le.2 few]
      · cases asserted : s.ward.fsafeAsserted
        · simp [fsafeAssertDue, opposing, asserted, few, enabled, Nat.not_lt.1 few, fsafeAssert_eq]
        · simp [fsafeAssertDue, fsafeClearDue, opposing, asserted, few, enabled, Nat.not_lt.1 few, fsafeClear_eq asserted]
    · have opposed : (s.pins.inputs.nFsafe == s.ward.fsafeAsserted) = false := beq_eq_false_iff_ne.2 opposing
      cases asserted : s.ward.fsafeAsserted <;> simp_all [fsafeAssertDue, fsafeClearDue, fsafeOpposing]
  · simp [enabled]

/-! ## The warden, its pulse and the window (R19, R144, R150) -/

theorem wardenStep_eq (s : State) : wardenStep s = wardenAdvanced s := by
  unfold wardenStep wardenAdvanced
  refine ite_congr (by rw [Bool.not_eq_true']) (fun _ => rfl) fun armed => ?_
  have due := (timeoutDue_iff s).trans (and_iff_right (Bool.not_eq_false _ ▸ armed))
  exact if_congr due (wardenTimeout_eq s) rfl

theorem pulseStarts_iff (s : State) : pulseStarts s = true ↔ PulseStarts s := by
  rw [pulseStarts, Bool.and_eq_true, Bool.and_eq_true, timeoutDue_iff, decide_eq_true_eq]
  simp only [and_assoc]

theorem hrstStep_eq (before after : State) :
    hrstStep (pulseStarts before) after =
      if PulseStarts before then after else after.setWard { after.ward with hrst := after.ward.hrst - 1 } :=
  if_congr (pulseStarts_iff before) rfl rfl

theorem windowStep_eq (s : State) : windowStep s = lifetimeCounted s := by
  unfold windowStep lifetimeCounted
  cases window : s.port.window with
  | none => dsimp only; rw [← window]; rfl
  | some w =>
    dsimp only
    split <;> rfl

/-! ## The event (R38) -/

/-- R38: the seven steps, in the words of the statements. -/
theorem wardenMsSteps_eq (ms : MsInputs) (s : State) :
    wardenMsSteps ms s =
      let before := fsafeSampled (monitored ms.xinEdge s)
      let after := wardenAdvanced before
      let timed := if PulseStarts before then after else after.setWard { after.ward with hrst := after.ward.hrst - 1 }
      settle (storeStep (s.store.engine != .idle) ms.takes (lifetimeCounted timed)) := by
  simp only [wardenMsSteps, clockStep_eq, fsafeStep_eq, wardenStep_eq, hrstStep_eq, windowStep_eq]
  rfl

/-- R198: an event at its input pins, unless nCS has risen while a soft reset waits. -/
theorem meetPins_stays {pins : InPins} {s : State} (stays : ¬(s.sys.softPending = true ∧ pins.nCs = true)) :
    meetPins pins s = met pins s := by
  cases soft : s.sys.softPending with
  | false => exact meetPins_eq pins s soft
  | true =>
    have low : ¬pins.nCs = true := fun high => stays ⟨soft, high⟩
    rw [meetPins, if_neg low, meetInputs_eq]

/-- R198: nCS has risen while a soft reset waits. -/
theorem meetPins_resets {pins : InPins} {s : State} (soft : s.sys.softPending = true) (high : pins.nCs = true) :
    meetPins pins s = met pins (takeReset .soft s) := by
  rw [meetPins, if_pos high, nCsRises, if_pos soft, meetInputs_eq]

/-- Settles O48: nCS risen while a soft reset waits, or the event by the phase. -/
theorem wardenMillisecondsRunTheirSteps : Obligations.WardenMillisecondsRunTheirSteps := by
  unfold Obligations.WardenMillisecondsRunTheirSteps
  refine fun ms s => ⟨fun ⟨soft, high⟩ => ?_, fun stays => congrArg Host.Outcome.next ?_⟩
  · exact congrArg Host.Outcome.next (congrArg (wardenMsEvent ms) (meetPins_resets soft high))
  · show wardenMsEvent ms (meetPins ms.pins s) = _
    rw [meetPins_stays stays, wardenMsEvent, show (met ms.pins s).sys.phase = s.sys.phase from rfl]
    cases s.sys.phase with
    | inReset => rfl
    | poweringUp _ => exact congrArg (fun u => u.setTime { u.time with xinSeen := u.time.xinSeen || ms.xinEdge }) (countMs_eq _)
    | ready => exact wardenMsSteps_eq ms (met ms.pins s)

/-! ## Single steps (R19, R28, R144, R150) -/

theorem expiryDue_iff (s : State) : expiryDue s = true ↔ ∃ w, s.port.window = some w ∧ w.remaining ≤ 1 := by
  unfold expiryDue
  cases s.port.window <;> simp

theorem closedPhaseEndDue_iff (s : State) :
    closedPhaseEndDue s = true ↔ s.ward.armed = true ∧ s.ward.closedPhase = true ∧ s.ward.elapsed + 1 = s.ward.tMin := by
  rw [closedPhaseEndDue, Bool.and_eq_true, Bool.and_eq_true, beq_iff_eq, and_assoc]

/-- Settles O49: each event when it is due, with its effect. -/
theorem dueStepsTakePlace : Obligations.DueStepsTakePlace := by
  unfold Obligations.DueStepsTakePlace
  intro s
  refine ⟨congrArg Host.Outcome.next ?_, congrArg Host.Outcome.next ?_, congrArg Host.Outcome.next ?_,
    congrArg Host.Outcome.next ?_⟩
  · refine if_congr ?_ rfl rfl
    rw [Bool.and_eq_true, beq_iff_eq, expiryDue_iff]
  · refine (occur_eq (closedPhaseEndDue_iff s) passMs s).trans (ite_congr rfl ?_ fun _ => rfl)
    rintro ⟨-, -, -, ends⟩
    rw [passMs, ends]
  · refine (occur_eq (beq_iff_eq (a := s.ward.hrst)) countHrst s).trans (ite_congr rfl ?_ fun _ => rfl)
    rintro ⟨-, last⟩
    rw [countHrst, last]
  · exact occur_eq (substDue_iff s) substitute s

end Sys2Proof.TheWardenMillisecond
end

section
/-! PROOFS. Resets, the release and the power-up sequence. -/

open Sys2Proof Sys2Proof.Machine

namespace Sys2Proof.ResetAndPowerUp

/-! ## What a reset leaves in the pages (R185) -/

/-- R185: an append that a reset stops tears the bytes that it writes. -/
theorem interrupted_append {m : Memory} (canonical : Memory.wf m) (n : Nat) (slot : Fin 32) (record : List Byte) (left : Nat) :
    Interrupted (.appending slot record left) m
      (m.tear n (appendWrite slot record).1 (appendWrite slot record).2) := by
  have torn := Memory.tears_tear canonical n (appendWrite slot record).1 (appendWrite slot record).2
  dsimp only [Interrupted]
  by_cases first : slot.val % 4 = 0
  · have write : appendWrite slot record = (64 * (24 + slot.val / 4), record ++ List.replicate 48 0xFF) := by
      rw [appendWrite, if_pos first, slotBase, first]
      rfl
    rw [if_pos first]
    rwa [write] at torn ⊢
  · have write : appendWrite slot record = (64 * (24 + slot.val / 4) + 16 * (slot.val % 4), record) := if_neg first
    rw [if_neg first]
    rwa [write] at torn ⊢

/-- R185: a reset keeps the pages, apart from what it interrupts. -/
theorem interrupted_tornPages {s : State} (canonical : Memory.wf s.store.pages) :
    Interrupted s.store.engine s.store.pages (tornPages s) := by
  unfold tornPages
  cases engine : s.store.engine with
  | idle => rfl
  | programming page data left => exact Memory.tears_tear canonical _ _ _
  | appending slot record left => exact interrupted_append canonical _ slot record left
  | wiping page left failed =>
    dsimp only [Interrupted]
    split
    · exact Memory.tears_tear canonical _ _ _
    · rfl

/-! ## Resets (R23, R41, R195, R201) -/

/-- R195, R201: a reset, in the words of the statements. -/
theorem takeReset_eq (k : ResetKind) (s : State) :
    takeReset k s = resetWith (s.sys.asserted.add k) (tornPages s) (misoLost (sentBefore k s) s.port.miso) s := by
  rw [takeReset, outlivesReset_eq]
  rfl

/-- R23: how much of a transaction is sent does not depend on the kind of a reset that comes at any moment. -/
theorem sentBefore_anyMoment {k : ResetKind} (s : State) (moment : k ≠ .soft) : sentBefore k s = sentBefore .powerOn s :=
  if_congr (or_congr_right ⟨fun soft => absurd soft moment, nofun⟩) rfl rfl

/-- Tables 11-1 to 11-5: no value depends on what a reset keeps. -/
theorem resetValues_resetWith (asserted : ResetSet) (pages : Memory) (levels : List Bool) (s : State) :
    ResetValues (resetWith asserted pages levels s) := by
  obtain ⟨phase, port, cues, notes, stand, store⟩ := OutputChannels.reset_values
  exact ⟨phase, port, cues, notes, stand, store⟩

/-- Settles O53: the pages that the reset has torn, and the bits of MISO sent before it. -/
theorem resetsKeepTheStoreLocksAndCauses : Obligations.ResetsKeepTheStoreLocksAndCauses := by
  unfold Obligations.ResetsKeepTheStoreLocksAndCauses
  rintro s ⟨canonical, -⟩
  have atAnyMoment {k : ResetKind} (moment : k ≠ .soft) :
      (Host.Outcome.next (takeReset k s) : Host.Outcome State Fault Refusal) =
        .next (resetWith (s.sys.asserted.add k) (tornPages s) (misoLost (sentBefore .powerOn s) s.port.miso) s) := by
    rw [takeReset_eq, sentBefore_anyMoment s moment]
  refine ⟨tornPages s, sentBefore .powerOn s, interrupted_tornPages canonical, sentBefore_le _ s, sentBefore_high _ s,
    atAnyMoment nofun, atAnyMoment nofun, atAnyMoment nofun, ?_, resetValues_resetWith (s := s) (pages := tornPages s)⟩
  rw [takeReset_eq, misoLost_soft]
  rfl

/-! ## The release and readiness (R22, R195, R196) -/

/-- R196: the reset cause set at a release, in the words of the statements. -/
theorem releasedCauses_eq (former asserted : ResetSet) : releasedCauses former asserted = causesAtRelease former asserted := by
  obtain ⟨powerOn, brownout, pin, soft⟩ := asserted
  cases powerOn <;> cases brownout <;> simp [releasedCauses, causesAtRelease, ResetSet.union]

theorem release_eq (p : PowerUp) (s : State) : release p.xinEdge p.pins s = released p s := by
  rw [release, meetInputs_eq, releasedCauses_eq]
  rfl

/-! ## The nine steps (R199, R200) -/

/-- R26: warden milliseconds that pass, in the words of the statements. -/
theorem countMsTimes_eq (n : Nat) (s : State) : countMsTimes n s = msCounted n s := by
  induction n with
  | zero =>
    have full : min s.time.wardenMs.toNat 4294967295 = s.time.wardenMs.toNat := by have := s.time.wardenMs.isLt; omega
    rw [msCounted, Nat.add_zero, full, BitVec.ofNat_toNat, BitVec.setWidth_eq]
    rfl
  | succ n ih =>
    have counted : min ((BitVec.ofNat 32 (min (s.time.wardenMs.toNat + n) 4294967295)).toNat + 1) 4294967295 =
        min (s.time.wardenMs.toNat + (n + 1)) 4294967295 := by
      rw [BitVec.toNat_ofNat]
      omega
    calc countMsTimes (n + 1) s
      _ = countMs (msCounted n s) := congrArg countMs ih
      _ = msCounted 1 (msCounted n s) := TheWardenMillisecond.countMs_eq _
      _ = msCounted (n + 1) s := congrArg (fun c => s.setTime { s.time with wardenMs := BitVec.ofNat 32 c }) counted

/-- R187: the offset and the reason of a bad record fit one byte each. -/
theorem bad_lt {page : List Byte} {offset reason : Nat} (bad : classRecord page = .bad offset reason) :
    offset < 256 ∧ reason < 256 := by
  unfold classRecord at bad
  split at bad
  · cases bad
  · split at bad
    · cases bad
      decide
    · split at bad
      · cases bad
        decide
      · split at bad
        next f failing =>
          cases bad
          have invalid : f.2 = false := by simpa using List.find?_some failing
          have fails : FieldFails page f.1 :=
            RetainedStoreAndJournal.mem_configFields.1 (invalid ▸ List.mem_of_find?_eq_some failing)
          unfold FieldFails at fails
          omega
        next => cases bad

theorem values_eq (k : RecordClass) : k.values = recordValues k := by cases k <;> rfl

theorem applyConfig_eq (k : RecordClass) (s : State) : applyConfig k s = configTaken k s := by
  cases k <;> rfl

theorem enterAtPowerUp_eq (c : ConfigRecord) (s : State) :
    enterAtPowerUp c s = if c.standin = true then requested .powerUp s else s := by
  rw [enterAtPowerUp, TheWarden.requestStandin_eq]

theorem reportReset_eq (page : List Byte) (s : State) :
    reportReset (classRecord page) s = recordsQueued (classRecord page) s := by
  unfold reportReset recordsQueued
  cases bad : classRecord page with
  | erased => rfl
  | valid c => rfl
  | bad offset reason =>
    obtain ⟨offsetLt, reasonLt⟩ := bad_lt bad
    dsimp only
    rw [reportConfig, RetainedStoreAndJournal.halfN_eq offsetLt reasonLt]

/-- R199, R200: a step, in the words of the statements. -/
theorem powerUpStep_eq (p : PowerUp) (i : Nat) (s : State) :
    powerUpStep p i s = sequenceStep p (classRecord (s.store.pages.page 0)) i s :=
  match i with
  | 0 => rfl
  | 1 => applyConfig_eq _ s
  | 2 => rfl
  | 3 => TheWarden.evaluateBanks_eq s
  | 4 => congrArg (fun c : ConfigRecord => s.setChans c.chans) (values_eq _)
  | 5 => congrArg (startTimebase · s) (values_eq _)
  | 6 => congrArg (fun c : ConfigRecord => if c.autoArm = true then armWarden s else s) (values_eq _)
  | 7 => (congrArg₂ enterAtPowerUp (values_eq _) (countMsTimes_eq _ s)).trans (enterAtPowerUp_eq _ _)
  | 8 => (congrArg (reportReset _) (countMsTimes_eq _ s)).trans (reportReset_eq _ _)
  | _ + 9 => rfl

/-- R200 step 9: where the part stands when a step is done, in the words of the statements. -/
theorem stepDone_eq {i : Nat} (le : i ≤ 9) (s : State) :
    stepDone i s = if i = 9 then madeReady s else s.setSys { s.sys with phase := .poweringUp (Fin.ofNat 9 i) } := by
  unfold stepDone
  split
  next lt =>
    have same : (⟨i, lt⟩ : Fin 9) = Fin.ofNat 9 i := Fin.ext (Nat.mod_eq_of_lt lt).symm
    rw [if_neg (Nat.ne_of_lt lt), same]
  next last => rw [if_pos (by omega), becomeReady_eq]

/-! ## No step changes a page (R177, R182) -/

theorem queueJournal_pages (kind : JournalKind) (detail : Byte) (s : State) :
    (queueJournal kind detail s).store.pages = s.store.pages := by
  obtain ⟨pages, -⟩ := queueJournal_kept kind detail s
  exact pages

theorem requested_pages (c : Cause) (s : State) : (requested c s).store.pages = s.store.pages := by
  unfold requested entered
  split
  · rw [queueJournal_pages, raise_store, ← OutputChannels.cutBy_none, cutBy_store]
    rfl
  · rfl

theorem recordsQueued_pages (k : RecordClass) (s : State) : (recordsQueued k s).store.pages = s.store.pages := by
  cases k with
  | erased => exact queueJournal_pages ..
  | valid c => exact queueJournal_pages ..
  | bad offset reason => exact (queueJournal_pages ..).trans (queueJournal_pages ..)

theorem sequenceStep_pages (p : PowerUp) (k : RecordClass) (i : Nat) (s : State) :
    (sequenceStep p k i s).store.pages = s.store.pages := by
  unfold sequenceStep
  dsimp only
  split
  · rfl
  · rfl
  · rfl
  · rfl
  · rfl
  · split <;> rfl
  · split
    · exact requested_pages ..
    · rfl
  · exact recordsQueued_pages ..
  · rfl

/-- R199, R200: a step of the sequence on a part whose page 0 was classed as `k`, done. -/
def sequenceStepDone (p : PowerUp) (k : RecordClass) (s : State) (i : Nat) : State :=
  let t := sequenceStep p k i s
  if i = 9 then madeReady t else t.setSys { t.sys with phase := .poweringUp (Fin.ofNat 9 i) }

theorem sequenceStepDone_pages (p : PowerUp) (k : RecordClass) (s : State) (i : Nat) :
    (sequenceStepDone p k s i).store.pages = s.store.pages := by
  unfold sequenceStepDone
  dsimp only
  split <;> exact sequenceStep_pages p k i s

theorem carryOut_eq {p : PowerUp} {i : Nat} (le : i ≤ 9) {k : RecordClass} {s : State}
    (page : classRecord (s.store.pages.page 0) = k) : carryOut p s i = sequenceStepDone p k s i := by
  rw [carryOut, stepDone_eq le, powerUpStep_eq, page]
  rfl

/-- R199, R200: steps one after another. -/
theorem foldl_carryOut_eq {p : PowerUp} {k : RecordClass} (steps : List Nat) (within : ∀ i ∈ steps, i ≤ 9) (s : State)
    (page : classRecord (s.store.pages.page 0) = k) : steps.foldl (carryOut p) s = steps.foldl (sequenceStepDone p k) s := by
  induction steps generalizing s with
  | nil => rfl
  | cons i steps ih =>
    obtain ⟨le, within⟩ := List.forall_mem_cons.1 within
    rw [List.foldl_cons, List.foldl_cons, carryOut_eq le page]
    exact ih within _ (by rw [sequenceStepDone_pages, page])

/-- R199, R200: the sequence, in the words of the statements. -/
theorem powerUpFrom_eq (done : Nat) (p : PowerUp) (s : State) : powerUpFrom done p s = sequenced p done s := by
  refine congrArg settle (foldl_carryOut_eq _ (fun i mem => ?_) s ?_)
  · have lt := p.steps.isLt
    have := List.mem_range'_1.1 mem
    omega
  · simp only [Memory.page, Memory.readRun, pageBase, Nat.mul_zero, Nat.zero_add]

/-- Settles O54: the sequence by the phase, step for step through `foldl_carryOut_eq`, and readiness. -/
theorem powerUpRunsItsSteps : Obligations.PowerUpRunsItsSteps := by
  unfold Obligations.PowerUpRunsItsSteps
  refine fun s => ⟨fun p => congrArg Host.Outcome.next ?_, congrArg Host.Outcome.next ?_⟩
  · show powerUp p s = _
    unfold powerUp
    cases s.sys.phase with
    | inReset => dsimp only; rw [powerUpFrom_eq, release_eq]
    | poweringUp done => dsimp only; rw [powerUpFrom_eq, meetInputs_eq]; rfl
    | ready => rfl
  · rw [← becomeReady_eq]

end Sys2Proof.ResetAndPowerUp
end
